-- ==== Sys2Proof/Word.lean ====
section
/-!
DEFINITION. The word type of the block and its plainest arithmetic (spec/00_scope.md R9, R10):
every register is one 32-bit word (spec/10_state.md), arithmetic is on unbounded integers, and
a result is narrowed only where a rule says so.
-/

namespace Sys2Proof

/-- One 32-bit register or bus word (spec/10_state.md, "Every register is one 32-bit word"). -/
abbrev Word := BitVec 32

/-- One byte of the buffer memory's representation (see log entry 8). -/
abbrev Byte := BitVec 8

/-- R10: `u32(v) = v mod 2^32`. -/
abbrev u32 (v : Int) : Word := BitVec.ofInt 32 v

/-- R10: `s32(w)`, the two's-complement reading of a word. -/
abbrev s32 (w : Word) : Int := w.toInt

/-- The unsigned reading of a word, as an unbounded integer. -/
abbrev unsigned (w : Word) : Int := (w.toNat : Int)

end Sys2Proof
end

