-- ==== Sys2Proof/Syntax.lean ====
section
/-!
DEFINITION. The commands of spec/opcode_table.json (spec/30_encoding.md R303), one constructor a row.
An operand is held at its assembled value (R301): a speed number, a signed pitch in cp, an error
kind's number and the critical flag. Sys2Proof/WellFormed.lean says which values an encoding admits.
-/

namespace Sys2Proof

/-- R303: the thirteen commands. -/
inductive Instr where
  /-- 0x00 (R610) -/
  | nop
  /-- 0x01 (R611) -/
  | init
  /-- 0x02 (R612) -/
  | update
  /-- 0x03 (R613) -/
  | start
  /-- 0x04 (R614) -/
  | stop
  /-- 0x05 (R615) -/
  | toggleStandby
  /-- 0x06 (R616) -/
  | wake
  /-- 0x07 (R617) -/
  | cycleSpeed
  /-- 0x08 (R618): `SPEED`, operand bits [1:0], zero-extended. -/
  | setSpeed (speed : Nat)
  /-- 0x09 (R620): `PITCH`, operand bits [15:0], sign-extended, in cp. -/
  | setPitch (pitch : Int)
  /-- 0x0A (R621) -/
  | resetPitch
  /-- 0x0B (R622): `KIND`, operand bits [2:0], and `CRIT`, operand bit [3]. -/
  | reportError (kind : Nat) (crit : Bool)
  /-- 0x0C (R623) -/
  | loadDefaults
  deriving DecidableEq, Repr

end Sys2Proof
end

