-- ==== Sys2Proof/WellFormed.lean ====
section
/-!
DEFINITION. Which commands have an encoding (spec/30_encoding.md R301, R311): the operand ranges of
`SET_SPEED <n>` (0 to 3), `SET_PITCH <cp>` (−32768 to 32767) and `REPORT_ERROR <kind>` (three bits).
A value the command later rejects (R305) is still well-formed: the word exists.
-/

namespace Sys2Proof

/-- R301, R311: every operand fits its field. -/
def Instr.wellFormed : Instr → Bool
  | .nop => true
  | .init => true
  | .update => true
  | .start => true
  | .stop => true
  | .toggleStandby => true
  | .wake => true
  | .cycleSpeed => true
  | .setSpeed speed => decide (speed ≤ 3)
  | .setPitch pitch => decide (-32768 ≤ pitch ∧ pitch ≤ 32767)
  | .resetPitch => true
  | .reportError kind _ => decide (kind ≤ 7)
  | .loadDefaults => true

end Sys2Proof
end

