-- ==== Sys2Proof/Decode.lean ====
section
/-!
DEFINITION. Decoding of a command word and its encoder (spec/30_encoding.md R300 to R311). Decoding is
total (R306): a word selects a row of R303 by its OPCODE alone, or is rejected by name as reserved
(R304). Operand bits that R301 does not name are ignored (R302) and encoded as 0.
-/

namespace Sys2Proof

/-- Why a word is no command. -/
inductive DecodeError where
  /-- R304: OPCODE 0x0D to 0xFF. The bus write that carries such a word sets CMDERR (R624). -/
  | reservedOpcode (opcode : Nat)
  deriving DecidableEq, Repr

/-- R300: bits [31:24]. -/
def opcodeOf (w : Word) : Nat := (w.extractLsb' 24 8).toNat

/-- R301: SPEED, `zext_2(OPERAND[1:0])`. -/
def speedField (w : Word) : Nat := (w.extractLsb' 0 2).toNat

/-- R301: PITCH, `sext_16(OPERAND[15:0])`. -/
def pitchField (w : Word) : Int := (w.extractLsb' 0 16).toInt

/-- R301: KIND, `zext_3(OPERAND[2:0])`. -/
def kindField (w : Word) : Nat := (w.extractLsb' 0 3).toNat

/-- R301: CRIT, OPERAND[3]. -/
def critField (w : Word) : Bool := w.getLsbD 3

/-- R303, R304, R306: the command a word selects. -/
def decode (w : Word) : Except DecodeError Instr :=
  match opcodeOf w with
  | 0x00 => .ok .nop
  | 0x01 => .ok .init
  | 0x02 => .ok .update
  | 0x03 => .ok .start
  | 0x04 => .ok .stop
  | 0x05 => .ok .toggleStandby
  | 0x06 => .ok .wake
  | 0x07 => .ok .cycleSpeed
  | 0x08 => .ok (.setSpeed (speedField w))
  | 0x09 => .ok (.setPitch (pitchField w))
  | 0x0A => .ok .resetPitch
  | 0x0B => .ok (.reportError (kindField w) (critField w))
  | 0x0C => .ok .loadDefaults
  | op => .error (.reservedOpcode op)

/-- R303: the OPCODE of a command. -/
def Instr.opcode : Instr → Nat
  | .nop => 0x00
  | .init => 0x01
  | .update => 0x02
  | .start => 0x03
  | .stop => 0x04
  | .toggleStandby => 0x05
  | .wake => 0x06
  | .cycleSpeed => 0x07
  | .setSpeed _ => 0x08
  | .setPitch _ => 0x09
  | .resetPitch => 0x0A
  | .reportError _ _ => 0x0B
  | .loadDefaults => 0x0C

/-- R311: the operand field a command assembles to, as a number below 2^24. -/
def Instr.operand : Instr → Nat
  | .nop => 0
  | .init => 0
  | .update => 0
  | .start => 0
  | .stop => 0
  | .toggleStandby => 0
  | .wake => 0
  | .cycleSpeed => 0
  | .setSpeed speed => speed
  | .setPitch pitch => (pitch % 65536).toNat
  | .resetPitch => 0
  | .reportError kind crit => kind + (if crit then 8 else 0)
  | .loadDefaults => 0

/-- R300, R311: the word of a well-formed command. -/
def encode (i : Instr) : Word := BitVec.ofNat 32 (i.opcode * 2 ^ 24 + i.operand)

/-- The command the decoder reads from a table row's bits: bits above `nbits` are 0, and a command
is one 32-bit word whose bit numbers are the table's (R9, R300). -/
def decodeTableWord (nbits w : Nat) : Option Instr :=
  match decode (BitVec.ofNat 32 (w % 2 ^ nbits)) with
  | .ok i => some i
  | .error _ => none

end Sys2Proof
end

