-- ==== Sys2Proof/Config.lean ====
section
/-!
DEFINITION. What the implementation or the environment fixes (spec/00_scope.md R7, R8 and the open
parameters of spec/92_eei_decisions.md): the constants of R7, the build parameters `LUT_BITS` and
`FIR_COEFF` as constants without a body, and the agents' steps (R6, R310) with the free choice of
the next one. `BASE_ADDR` has no rule that depends on it (R204) and is left out (log entry 20).
-/

namespace Sys2Proof

/-! ## Constants (R7) -/

namespace Config

/-- R7 `LUT_PEAK`. -/
abbrev lutPeak : Int := 511
/-- R7 `DC_OFFSET`. -/
abbrev dcOffset : Int := 512
/-- R7 `CC_MAX`. -/
abbrev ccMax : Int := 1023
/-- R7 `BUF_TICKS`: words per buffer half per slice. -/
abbrev bufTicks : Nat := 256
/-- R7 `WDT_TIMEOUT_MS`. -/
abbrev wdtTimeoutMs : Nat := 2000
/-- R7 `RELAY_STEP_MS`. -/
abbrev relayStepMs : Nat := 100
/-- R7 `RUNTIME_QUANTUM_MS`. -/
abbrev runtimeQuantumMs : Nat := 1000
/-- R7 `CRIT_DISPLAY_MIN_MS`. -/
abbrev critDisplayMinMs : Nat := 10000
/-- R7 `F_PWM_HZ`, in millihertz as R410 uses it (50 kHz = 5·10^7 mHz). -/
abbrev fPwmMhz : Int := 50000000
/-- R101: the constant the identification register holds, ASCII "TTC1". -/
abbrev idValue : Word := 0x54544331

end Config

/-! ## Build parameters -/

/-- R7, R8 `LUT_BITS`: one of the five legal sizes of the sine table. -/
inductive LutBits where
  | b10 | b11 | b12 | b13 | b14
  deriving DecidableEq, Repr, Inhabited

/-- The number of index bits a legal size stands for. -/
def LutBits.bits : LutBits → Nat
  | .b10 => 10
  | .b11 => 11
  | .b12 => 12
  | .b13 => 13
  | .b14 => 14

/-- R140 FIRP, R520: the FIR profiles. -/
inductive FirProfile where
  /-- code 0 -/
  | gentle
  /-- code 1 -/
  | medium
  /-- code 2 -/
  | aggressive
  deriving DecidableEq, Repr, Inhabited

/-- R520 `FIR_COEFF[p][k]`: a signed 16-bit Q15 weight per profile and tap (R13). -/
abbrev FirTable := FirProfile → Fin 8 → BitVec 16

/-- R8: the size this build has. It has NO BODY: no value may be assumed (log entry 5). -/
opaque Config.lutBits : LutBits

/-- R520: the coefficient tables this build has, "fixed at build time". NO BODY (log entry 6). -/
opaque Config.firCoeff : FirTable

/-- R520: the spec's default tables. The machine's step does not assume them (log entry 6). -/
def Config.firCoeffDefault : FirTable
  | .gentle, k => (#v[0, 1024, 2048, 13312, 13312, 2048, 1024, 0] : Vector (BitVec 16) 8)[k]
  | .medium, k => (#v[1024, 2048, 4096, 9216, 9216, 4096, 2048, 1024] : Vector (BitVec 16) 8)[k]
  | .aggressive, _ => 4096

/-! ## Agents (R6, R310) -/

/-- A half of the ping/pong buffer (R150, glossary "Half"): 0 or 1. -/
inductive Half where
  | h0 | h1
  deriving DecidableEq, Repr, Inhabited

/-- `1 − h`. -/
def Half.other : Half → Half
  | .h0 => .h1
  | .h1 => .h0

/-- The number of a half. -/
def Half.toNat : Half → Nat
  | .h0 => 0
  | .h1 => 1

/-- R6, R310: one step of one agent other than the watchdog, whose step R931 forces. CTRL has no
steps of its own: a command is executed inside the HOST's write. -/
inductive AgentStep where
  /-- HOST `MemRead(off, n)` (R201, R800). -/
  | hostRead (off n : Nat)
  /-- HOST `MemWrite(off, n, v)` (R201, R801); a write to `CMD` executes a command. -/
  | hostWrite (off n : Nat) (v : Word)
  /-- SYN's step (R430). -/
  | refill
  /-- DMA's step (R440). -/
  | tick
  /-- ISR's step for half `h` (R445). -/
  | isr (h : Half)
  /-- The timebase's step (R920). -/
  | clk
  deriving DecidableEq, Repr, Inhabited

/-- R6: "any enabled agent may take the next step". The n-th free choice of an agent's step, used
where no schedule is given. NO BODY: every claim holds for every choice (log entry 2). -/
opaque Config.freeStep : Nat → AgentStep

end Sys2Proof
end

