-- ==== Sys2Proof/Machine/State.lean ====
section
/-!
DEFINITION. The state of the block (spec/10_state.md R100 to R193), its reset value
(spec/70_reset_and_hazards.md R1001, R1004), and the reasons a step can stop.
-/

namespace Sys2Proof.Machine

open Sys2Proof

/-! ## Reasons a step stops -/

/-- Why the machine stops. No command and no bus access raises one (R306): each is raised by
`agentStep` for a scheduled step whose agent has no step, which R310 calls "an error in the program,
not a step". Safe: the model stops where the spec has no step (log entry 3). -/
inductive Fault where
  /-- A scheduled REFILL while `SYSINIT = 0` or the next half is not free (R430). Safe. -/
  | refillNotEnabled
  /-- A scheduled TICK while the consumer has not started (R440). Safe. -/
  | tickNotEnabled
  /-- A scheduled ISR step for a half whose completion is not pending (R445). Safe. -/
  | isrNotEnabled (h : Half)
  deriving DecidableEq, Repr

/-- Why a command has no meaning. -/
inductive Refusal where
  /-- An arm of `exec` whose instruction has no meaning yet. No arm raises it: every command is
  modelled. Safe. -/
  | notModelled (mnemonic : String)
  deriving DecidableEq, Repr

/-! ## Enumerations of the registers' fields -/

/-- R103 STATE: 5 to 7 never occur. -/
inductive MotorState where
  /-- code 0 -/
  | standby
  /-- code 1 -/
  | stopped
  /-- code 2 -/
  | starting
  /-- code 3 -/
  | running
  /-- code 4 -/
  | stopping
  deriving DecidableEq, Repr

/-- Glossary "Speed index": 0 = 33⅓, 1 = 45, 2 = 78 RPM; code 3 never occurs in a stored index. -/
inductive Speed where
  /-- code 0 -/
  | rpm33
  /-- code 1 -/
  | rpm45
  /-- code 2 -/
  | rpm78
  deriving DecidableEq, Repr

/-- R160 BOOT_SPEED: all four codes are used (R813). -/
inductive BootSpeed where
  /-- codes 0 to 2 -/
  | fixed (k : Speed)
  /-- code 3 -/
  | lastUsed
  deriving DecidableEq, Repr

/-- R140 KIND: 3 is never stored. -/
inductive FilterKind where
  /-- code 0 -/
  | none
  /-- code 1 -/
  | iir
  /-- code 2 -/
  | fir
  deriving DecidableEq, Repr

/-- R160 RAMP_TYPE. -/
inductive RampType where
  /-- code 0 -/
  | linear
  /-- code 1 -/
  | sCurve
  deriving DecidableEq, Repr

/-- R160 BRAKE_MODE. -/
inductive BrakeMode where
  /-- code 0 -/
  | off
  /-- code 1 -/
  | pulse
  /-- code 2 -/
  | ramp
  deriving DecidableEq, Repr

/-- R901: the error kinds, numbered 0 to 4 in this order. -/
inductive ErrorKind where
  | systemFreeze | motorStall | settingsCorrupt | i2cFailure | outOfMemory
  deriving DecidableEq, Repr

/-! ## Parts of the state -/

/-- R103: the fields of `STATUS`. -/
structure Status where
  motor      : MotorState
  sysinit    : Bool
  pub        : Bool
  hasCrit    : Bool
  critMute   : Bool
  underrun   : Bool
  buserr     : Bool
  cmderr     : Bool
  speedIdx   : Speed
  swActive   : Bool
  ampReduced : Bool
  activeSel  : Bool
  started    : Bool
  wdtArmed   : Bool
  deriving DecidableEq, Repr

/-- R110: the fields of `ERR_STATUS`. -/
structure ErrStatus where
  kind  : ErrorKind
  crit  : Bool
  valid : Bool
  deriving DecidableEq, Repr

/-- One flag per buffer half. -/
structure HalfFlags where
  h0 : Bool
  h1 : Bool
  deriving DecidableEq, Repr

/-- R114: the fields of `BUF_STATE`. TICK_POS is 0 to 255, so its ninth bit is always 0. -/
structure BufState where
  ready    : HalfFlags
  free     : HalfFlags
  irq      : HalfFlags
  playHalf : Half
  nextFill : Half
  tickPos  : Fin 256
  deriving DecidableEq, Repr

/-- R118: the state-machine latches, each a 32-bit register. -/
structure Latches where
  stTgt      : Word
  stAmp      : Word
  stopA0     : Word
  stopF0     : Word
  stopTgt    : Word
  stopTamp   : Word
  swFrom     : Word
  swTo       : Word
  swEpoch    : Word
  redEpoch   : Word
  stairEpoch : Word
  wdtFeed    : Word
  lastUpdate : Word
  rtAcc      : Word
  deriving DecidableEq, Repr

/-- R119: the fields of `SM_MISC`. -/
structure SmMisc where
  stSpeed   : Speed
  relayPrev : Bool
  graceDone : Bool
  relayN    : BitVec 3
  deriving DecidableEq, Repr

/-- R140: one DDSState block. `OFF0` is hard-wired 0 and has no storage. -/
structure DdsBlock where
  baseFreq : Word
  phaseInc : Word
  off1     : Word
  off2     : Word
  off3     : Word
  amp      : BitVec 16
  en       : Bool
  kind     : FilterKind
  firp     : FirProfile
  pm       : BitVec 3
  alpha    : BitVec 16
  deriving DecidableEq, Repr

/-- R145 to R147: the filter state of one channel: `IIR_Y[c]`, the channel's `FIR_PTR` field and its
eight `FIR_HIST` slots. -/
structure ChanFilter where
  iirY    : Word
  firPtr  : Fin 8
  firHist : Vector Word 8
  deriving DecidableEq, Repr

/-- R160: the global configuration. A field written `[31:0]` is a whole word. -/
structure GlobalConfig where
  phaseMode       : Word
  maxAmpPct       : Word
  rampType        : RampType
  fdaPct          : Word
  smoothSw        : Bool
  swRampMs        : Word
  brakeMode       : BrakeMode
  brakeMs         : Word
  pulseGapMs      : Word
  brakeStartMhz   : Word
  brakeStopMhz    : Word
  activeHigh      : Bool
  linkStandby     : Bool
  linkStartstop   : Bool
  powerOnDelayMs  : Word
  autoStandbyMin  : Word
  bootSpeed       : BootSpeed
  en78            : Bool
  autoBoot        : Bool
  autoStart       : Bool
  lastSpeed       : Speed
  pitchRange      : Word
  errDispMs       : Word
  deriving DecidableEq, Repr

/-- R170: one speed profile. -/
structure SpeedProfile where
  nominalMhz  : Word
  minMhz      : Word
  maxMhz      : Word
  phase0Cdeg  : Word
  phase1Cdeg  : Word
  phase2Cdeg  : Word
  phase3Cdeg  : Word
  softStartMs : Word
  kickMult    : Word
  kickHoldMs  : Word
  kickRampMs  : Word
  redPct      : Word
  redDelayMs  : Word
  filterKind  : FilterKind
  firp        : FirProfile
  alphaQ16    : Word
  deriving DecidableEq, Repr

/-- The three speed profiles, one per speed index. -/
structure Profiles where
  sp33 : SpeedProfile
  sp45 : SpeedProfile
  sp78 : SpeedProfile
  deriving DecidableEq, Repr

/-- R150: buffer memory, as bytes keyed by their register offset 0x1000 to 0x1FFF; bit 0 of a word is
in the byte at its lowest offset (log entry 8). A byte not listed reads 0, R150's reset value. -/
abbrev Memory := List Host.Cell

/-- Addresses strictly rise from one above `lo`, and no listed byte is 0. -/
def Memory.risingFrom : Nat → Memory → Bool
  | _, [] => true
  | lo, (a, b) :: rest => decide (lo ≤ a) && decide (b ≠ 0) && Memory.risingFrom (a + 1) rest

/-- The canonical form: addresses strictly rising and no entry equal to what an unlisted address
reads as, so that equal memories are equal data. -/
abbrev Memory.wf (m : Memory) : Bool := Memory.risingFrom 0 m

/-! ## The state -/

/-- R100: the block's whole state. The last three fields are the MODEL's own and stand for the
environment: which agent steps come next (log entry 1), how many free choices were taken (log entry
2) and what the last bus read returned to the HOST (log entry 4). -/
structure State where
  /-- R103 `STATUS` -/
  status       : Status
  /-- R104 `CUR_FREQ`, s32 mHz -/
  curFreq      : Word
  /-- R106 `CUR_AMP.AMP`, Q1.15 -/
  curAmp       : BitVec 16
  /-- R106 `CUR_AMP.EN` -/
  curEn        : Bool
  /-- R108 `SESSION_RT` -/
  sessionRt    : Word
  /-- R109 `TOTAL_RT` -/
  totalRt      : Word
  /-- R110 `ERR_STATUS` -/
  errStatus    : ErrStatus
  /-- R111 `ERR_DISPLAY_MS` -/
  errDisplayMs : Word
  /-- R112 `TIME_MS` -/
  timeMs       : Word
  /-- R113 `MASTER_PHASE` -/
  masterPhase  : Word
  /-- R114 `BUF_STATE` -/
  bufs         : BufState
  /-- R115 `STATE_EPOCH` -/
  stateEpoch   : Word
  /-- R116 `PWM_OUT_A` -/
  pwmOutA      : Word
  /-- R116 `PWM_OUT_B` -/
  pwmOutB      : Word
  /-- R117 `TICK_COUNT` -/
  tickCount    : Word
  /-- R118 latches -/
  latches      : Latches
  /-- R119 `SM_MISC` -/
  misc         : SmMisc
  /-- R120 `PITCH_RAW`, s32 cp -/
  pitchRaw     : Word
  /-- R140 DDSState block A -/
  ddsA         : DdsBlock
  /-- R140 DDSState block B -/
  ddsB         : DdsBlock
  /-- R145 to R147 filter state of channels 0 to 3 -/
  filters      : Vector ChanFilter 4
  /-- R150 buffer memory -/
  mem          : Memory
  /-- R160 global configuration -/
  cfg          : GlobalConfig
  /-- R170 speed profiles -/
  profiles     : Profiles
  /-- The model's own: agent steps still to come, in order (R310). -/
  schedule     : List AgentStep
  /-- The model's own: how many free choices of a step were taken (R6). -/
  choices      : Nat
  /-- The model's own: the value the last bus read returned (R800). -/
  busData      : Word
  deriving DecidableEq, Repr

/-! ## Reset values -/

/-- R103: `STATUS = 0`. -/
def Status.reset : Status where
  motor := .standby
  sysinit := false
  pub := false
  hasCrit := false
  critMute := false
  underrun := false
  buserr := false
  cmderr := false
  speedIdx := .rpm33
  swActive := false
  ampReduced := false
  activeSel := false
  started := false
  wdtArmed := false

/-- R114: `BUF_STATE = 0x0000000C`. -/
def BufState.reset : BufState where
  ready := ⟨false, false⟩
  free := ⟨true, true⟩
  irq := ⟨false, false⟩
  playHalf := .h0
  nextFill := .h0
  tickPos := 0

/-- R118: every latch is 0. -/
def Latches.reset : Latches where
  stTgt := 0
  stAmp := 0
  stopA0 := 0
  stopF0 := 0
  stopTgt := 0
  stopTamp := 0
  swFrom := 0
  swTo := 0
  swEpoch := 0
  redEpoch := 0
  stairEpoch := 0
  wdtFeed := 0
  lastUpdate := 0
  rtAcc := 0

/-- R142: "a silent zero state". -/
def DdsBlock.silent : DdsBlock where
  baseFreq := 0
  phaseInc := 0
  off1 := 0
  off2 := 0
  off3 := 0
  amp := 0
  en := false
  kind := .none
  firp := .gentle
  pm := 0
  alpha := 0

/-- R145 to R147: a channel's filter state at 0. -/
def ChanFilter.zero : ChanFilter where
  iirY := 0
  firPtr := 0
  firHist := Vector.replicate 8 0

/-- R160: the default of every global configuration register. -/
def GlobalConfig.default : GlobalConfig where
  phaseMode := 4
  maxAmpPct := 100
  rampType := .sCurve
  fdaPct := 0
  smoothSw := false
  swRampMs := 3000
  brakeMode := .off
  brakeMs := 2000
  pulseGapMs := 500
  brakeStartMhz := 50000
  brakeStopMhz := 10000
  activeHigh := true
  linkStandby := true
  linkStartstop := false
  powerOnDelayMs := 0
  autoStandbyMin := 0
  bootSpeed := .lastUsed
  en78 := true
  autoBoot := false
  autoStart := false
  lastSpeed := .rpm33
  pitchRange := 10
  errDispMs := 3000

/-- R171: the fields every profile's default shares, around its three frequencies. -/
def SpeedProfile.defaultWith (nominal min max : Word) : SpeedProfile where
  nominalMhz := nominal
  minMhz := min
  maxMhz := max
  phase0Cdeg := 0
  phase1Cdeg := 9000
  phase2Cdeg := 18000
  phase3Cdeg := 27000
  softStartMs := 1000
  kickMult := 1
  kickHoldMs := 1000
  kickRampMs := 2000
  redPct := 100
  redDelayMs := 30000
  filterKind := .none
  firp := .medium
  alphaQ16 := 32768

/-- R171: the defaults of the three profiles. -/
def Profiles.default : Profiles where
  sp33 := .defaultWith 50000 25000 75000
  sp45 := .defaultWith 67500 33750 101250
  sp78 := .defaultWith 117000 58500 175500

/-- R1001, R1004: the block right after reset. The schedule is empty: the block runs no program of
its own (R191); see log entries 1 and 2 for how one comes to run. -/
def State.reset : State where
  status := .reset
  curFreq := 0
  curAmp := 0
  curEn := false
  sessionRt := 0
  totalRt := 0
  errStatus := ⟨.systemFreeze, false, false⟩
  errDisplayMs := 0
  timeMs := 0
  masterPhase := 0
  bufs := .reset
  stateEpoch := 0
  pwmOutA := 0
  pwmOutB := 0
  tickCount := 0
  latches := .reset
  misc := ⟨.rpm33, false, false, 0⟩
  pitchRaw := 0
  ddsA := .silent
  ddsB := .silent
  filters := Vector.replicate 4 .zero
  mem := []
  cfg := .default
  profiles := .default
  schedule := []
  choices := 0
  busData := 0

end Sys2Proof.Machine
end

