-- ==== Sys2Proof/Machine/Ops.lean ====
section
/-!
DEFINITION. The named operations the meanings share: the rounding primitives of spec/00_scope.md R11,
the buffer memory (spec/10_state.md R150), the buffer halves' flags, the views of the DDSState blocks
(R141), time (R12) and the block reset (spec/70_reset_and_hazards.md R1001). The block takes no
exceptions: what R12 calls `raise` sets a sticky bit, one operation in Machine/Flags.lean.
-/

namespace Sys2Proof.Machine

open Sys2Proof

/-! ## Integer primitives (R11) -/

/-- R11: `floor_div(a, b)` for `b > 0`, the greatest `q` with `q·b ≤ a`. Lean's integer division is
the floor for a positive divisor; the rules divide by nothing else (log entry 15). -/
def floorDiv (a b : Int) : Int := a / b

/-- R11: `rhu(a, k)`, round half up, `floor_div(a + 2^(k−1), 2^k)` for `k ≥ 1`. -/
def rhu (a : Int) (k : Nat) : Int := floorDiv (a + 2 ^ (k - 1)) (2 ^ k)

/-- R11: `rha(a, b)`, round half away from zero, `sign(a) · floor_div(|a|·2 + b, 2·b)`. -/
def rha (a b : Int) : Int := a.sign * floorDiv (a.natAbs * 2 + b) (2 * b)

/-- R11: `clamp(v, lo, hi) = min(max(v, lo), hi)`. -/
def clamp (v lo hi : Int) : Int := min (max v lo) hi

/-- 44_register_access.md section 2: `clampu`, the clamp of a written word read as unsigned. -/
def clampu (v : Word) (lo hi : Nat) : Word := BitVec.ofNat 32 (min (max v.toNat lo) hi)

/-! ## Buffer memory (R150) -/

/-- The value of one byte: what is listed, and 0 (R150's reset value) where nothing is. -/
def Memory.readByte : Memory → Nat → Byte
  | [], _ => 0
  | (a, b) :: rest, x => if a = x then b else Memory.readByte rest x

/-- The cells a run of bytes from `base` lists: a 0 lists nothing, it is what an unlisted byte reads. -/
def Memory.cellsOf : Nat → List Byte → Memory
  | _, [] => []
  | base, b :: bs => if b = 0 then Memory.cellsOf (base + 1) bs else (base, b) :: Memory.cellsOf (base + 1) bs

/-- Store a run of bytes from `base` on, in one step. -/
def Memory.writeBytes (m : Memory) (base : Nat) (bs : List Byte) : Memory :=
  m.filter (fun c => decide (c.1 < base)) ++ Memory.cellsOf base bs
    ++ m.filter (fun c => decide (base + bs.length ≤ c.1))

/-- The four bytes of a word, bit 0 first (R203, log entry 8). -/
def wordBytes (w : Word) : List Byte :=
  [w.extractLsb' 0 8, w.extractLsb' 8 8, w.extractLsb' 16 8, w.extractLsb' 24 8]

/-- The word whose lowest byte is at `a`. -/
def Memory.readWord (m : Memory) (a : Nat) : Word :=
  m.readByte (a + 3) ++ m.readByte (a + 2) ++ m.readByte (a + 1) ++ m.readByte a

/-- Store words one after another from `a` on. -/
def Memory.writeWords (m : Memory) (a : Nat) (ws : List Word) : Memory :=
  m.writeBytes a (ws.flatMap wordBytes)

/-- The PWM slices of the glossary: A drives channels 0 and 1, B channels 2 and 3. -/
inductive Slice where
  | a | b
  deriving DecidableEq, Repr

/-- R150: the register offset of `BUF[s][h][j]`, `0x1000 + 0x800·s + 0x400·h + 4·j`. -/
def bufAddr (sl : Slice) (h : Half) (j : Nat) : Nat :=
  0x1000 + (match sl with | .a => 0 | .b => 0x800) + 0x400 * h.toNat + 4 * j

/-- R150: `BUF[s][h][j]`. -/
def bufWord (s : State) (sl : Slice) (h : Half) (j : Nat) : Word := s.mem.readWord (bufAddr sl h j)

/-! ## Buffer halves (R114) -/

/-- The flag of half `h`. -/
def HalfFlags.get (f : HalfFlags) : Half → Bool
  | .h0 => f.h0
  | .h1 => f.h1

/-- The flags with half `h`'s set to `b`. -/
def HalfFlags.set (f : HalfFlags) (h : Half) (b : Bool) : HalfFlags :=
  match h with
  | .h0 => { f with h0 := b }
  | .h1 => { f with h1 := b }

/-! ## DDSState views (R141) -/

/-- R141: the block `ACTIVE_SEL` selects. -/
def State.activeBlock (s : State) : DdsBlock := if s.status.activeSel then s.ddsB else s.ddsA

/-- R141: the other block. -/
def State.pendingBlock (s : State) : DdsBlock := if s.status.activeSel then s.ddsA else s.ddsB

/-- `PENDING <- B`. -/
def State.setPending (s : State) (b : DdsBlock) : State :=
  if s.status.activeSel then { s with ddsA := b } else { s with ddsB := b }

/-! ## Profiles, time and the motor state -/

/-- R170: `SP[k]`. -/
def Profiles.get (p : Profiles) : Speed → SpeedProfile
  | .rpm33 => p.sp33
  | .rpm45 => p.sp45
  | .rpm78 => p.sp78

/-- `SP[k] <- q`. -/
def Profiles.set (p : Profiles) (k : Speed) (q : SpeedProfile) : Profiles :=
  match k with
  | .rpm33 => { p with sp33 := q }
  | .rpm45 => { p with sp45 := q }
  | .rpm78 => { p with sp78 := q }

/-- R12: `elapsed(e) = u32(now − e)`, as a number. -/
def State.elapsed (s : State) (e : Word) : Nat := (s.timeMs - e).toNat

/-- "STATE <- m; STATE_EPOCH <- now". -/
def State.enter (s : State) (m : MotorState) : State :=
  { s with status.motor := m, stateEpoch := s.timeMs }

/-! ## Reset (R1001) -/

/-- R1001: every piece of the block's state takes its reset value. The schedule, the free choices and
what the HOST last read are the environment's and stay (log entry 11). -/
def blockReset (s : State) : State :=
  { State.reset with schedule := s.schedule, choices := s.choices, busData := s.busData }

/-- R931: the watchdog's enabling condition. -/
def wdtDue (s : State) : Bool :=
  s.status.wdtArmed && decide (Config.wdtTimeoutMs ≤ s.elapsed s.latches.wdtFeed)

end Sys2Proof.Machine
end

