-- ==== Sys2Proof/Machine/Flags.lean ====
section
/-!
DEFINITION. The block's flags (spec/10_state.md R192): the sticky error bits and how one is raised
(spec/60_exceptions.md R900, R905 to R908), and the words that `STATUS` (R103), `BUF_STATE` (R114),
`SM_MISC` (R119), `ERR_STATUS` (R110), `CUR_AMP` (R106) and a block's `CTRL` (R140) read as. The block has
no arithmetic condition codes.
-/

namespace Sys2Proof.Machine

open Sys2Proof

/-! ## Sticky error bits -/

/-- R12, R900: the bits `raise` sets. -/
inductive StickyError where
  | underrun | buserr | cmderr
  deriving DecidableEq, Repr

/-- R12, R908: `raise` sets the sticky bit and nothing else. Only reset clears it. -/
def raise (e : StickyError) (s : State) : State :=
  match e with
  | .underrun => { s with status.underrun := true }
  | .buserr => { s with status.buserr := true }
  | .cmderr => { s with status.cmderr := true }

/-! ## Field codes -/

/-- R103: the code of a motor state. -/
def MotorState.code : MotorState → Nat
  | .standby => 0
  | .stopped => 1
  | .starting => 2
  | .running => 3
  | .stopping => 4

/-- The speed index. -/
def Speed.code : Speed → Nat
  | .rpm33 => 0
  | .rpm45 => 1
  | .rpm78 => 2

/-- R160: the code of BOOT_SPEED. -/
def BootSpeed.code : BootSpeed → Nat
  | .fixed k => k.code
  | .lastUsed => 3

/-- R140: the code of KIND. -/
def FilterKind.code : FilterKind → Nat
  | .none => 0
  | .iir => 1
  | .fir => 2

/-- R140: the code of FIRP. -/
def firpCode : FirProfile → Nat
  | .gentle => 0
  | .medium => 1
  | .aggressive => 2

/-- R160: the code of BRAKE_MODE. -/
def BrakeMode.code : BrakeMode → Nat
  | .off => 0
  | .pulse => 1
  | .ramp => 2

/-- R160: the code of RAMP_TYPE. -/
def RampType.code : RampType → Nat
  | .linear => 0
  | .sCurve => 1

/-- R901: the code of an error kind. -/
def ErrorKind.code : ErrorKind → Nat
  | .systemFreeze => 0
  | .motorStall => 1
  | .settingsCorrupt => 2
  | .i2cFailure => 3
  | .outOfMemory => 4

/-! ## Register words -/

/-- R9: a field of value `v` whose lowest bit is bit `lo`. -/
def field (lo v : Nat) : Nat := v * 2 ^ lo

/-- R9: a one-bit field at bit `lo`. -/
def bit (lo : Nat) (b : Bool) : Nat := field lo b.toNat

/-- R103: the word `STATUS` reads as. -/
def statusWord (t : Status) : Word :=
  BitVec.ofNat 32 (field 0 t.motor.code + bit 3 t.sysinit + bit 4 t.pub + bit 5 t.hasCrit
    + bit 6 t.critMute + bit 7 t.underrun + bit 8 t.buserr + bit 9 t.cmderr + field 10 t.speedIdx.code
    + bit 12 t.swActive + bit 13 t.ampReduced + bit 14 t.activeSel + bit 15 t.started
    + bit 16 t.wdtArmed)

/-- R106: the word `CUR_AMP` reads as. -/
def curAmpWord (amp : BitVec 16) (en : Bool) : Word := BitVec.ofNat 32 (field 0 amp.toNat + bit 16 en)

/-- R110: the word `ERR_STATUS` reads as. -/
def errStatusWord (e : ErrStatus) : Word :=
  BitVec.ofNat 32 (field 0 e.kind.code + bit 3 e.crit + bit 4 e.valid)

/-- R114: the word `BUF_STATE` reads as. -/
def bufStateWord (b : BufState) : Word :=
  BitVec.ofNat 32 (bit 0 b.ready.h0 + bit 1 b.ready.h1 + bit 2 b.free.h0 + bit 3 b.free.h1
    + bit 4 b.irq.h0 + bit 5 b.irq.h1 + field 6 b.playHalf.toNat + field 7 b.nextFill.toNat
    + field 8 b.tickPos.val)

/-- R119: the word `SM_MISC` reads as. -/
def smMiscWord (m : SmMisc) : Word :=
  BitVec.ofNat 32 (field 0 m.stSpeed.code + bit 2 m.relayPrev + bit 3 m.graceDone + field 4 m.relayN.toNat)

/-- R140: the word `CTRL` of a block. -/
def ctrlWord (b : DdsBlock) : Word :=
  BitVec.ofNat 32 (field 0 b.amp.toNat + bit 16 b.en + field 17 b.kind.code + field 19 (firpCode b.firp)
    + field 21 b.pm.toNat)

/-- R140: word `w` of a block; `OFF0` is hard-wired 0 (R412). -/
def ddsWord (b : DdsBlock) (w : Fin 8) : Word :=
  match w with
  | 0 => b.baseFreq
  | 1 => b.phaseInc
  | 2 => 0
  | 3 => b.off1
  | 4 => b.off2
  | 5 => b.off3
  | 6 => ctrlWord b
  | 7 => b.alpha.setWidth 32

/-- R146: `FIR_PTR`, field `[4c+2 : 4c]` for channel `c`. -/
def firPtrWord (fs : Vector ChanFilter 4) : Word :=
  BitVec.ofNat 32 (field 0 fs[0].firPtr.val + field 4 fs[1].firPtr.val + field 8 fs[2].firPtr.val
    + field 12 fs[3].firPtr.val)

end Sys2Proof.Machine
end

