-- ==== Sys2Proof/Machine/Operands.lean ====
section
/-!
DEFINITION. The operand forms of the three commands that read operand bits (spec/30_encoding.md R301,
R305): which operand values a command accepts and what they stand for.
-/

namespace Sys2Proof.Machine

open Sys2Proof

/-- R618: the speed `SET_SPEED n` asks for, or nothing where it is rejected: `n = 3`, or `n = 2` while
`EN78 = 0`. An `n` above 3 has no encoding and is rejected too. -/
def speedOperand (n : Nat) (en78 : Bool) : Option Speed :=
  match n with
  | 0 => some .rpm33
  | 1 => some .rpm45
  | 2 => if en78 then some .rpm78 else none
  | _ => none

/-- R620: the pitch `SET_PITCH v` stores, `clamp(v, −5000, 5000)`. -/
def pitchOperand (v : Int) : Word := u32 (clamp v (-5000) 5000)

/-- R622, R901: the error kind a code names; 5 to 7 name none and are rejected. -/
def errorKindOperand (kind : Nat) : Option ErrorKind :=
  match kind with
  | 0 => some .systemFreeze
  | 1 => some .motorStall
  | 2 => some .settingsCorrupt
  | 3 => some .i2cFailure
  | 4 => some .outOfMemory
  | _ => none

end Sys2Proof.Machine
end

