-- ==== Sys2Proof/Machine/Wave.lean ====
section
/-!
DEFINITION. The waveform side of the DDS engine (spec/40_dds_engine.md R400 to R412): the sine table
and its interpolation, the phase increment of a frequency and the phase offset of an angle.
-/

namespace Sys2Proof.Machine

open Sys2Proof

/-! ## The sine table (R400, R401) -/

/-- π as a fraction, below its value by less than 3·10^-16. -/
abbrev piNum : Int := 3141592653589793
/-- The denominator that goes with `piNum`. -/
abbrev piDen : Int := 1000000000000000

/-- Numerator and denominator of `1 − y/c₁·(1 − y/c₂·(…))` for `y = n2/d2`. -/
def sineTail (n2 d2 : Int) : List Int → Int × Int
  | [] => (1, 1)
  | c :: cs =>
    let t := sineTail n2 d2 cs
    (c * d2 * t.2 - n2 * t.1, c * d2 * t.2)

/-- The products (2j)(2j+1) of the sine's series, for its terms up to x^13/13!. -/
abbrev sineCoeffs : List Int := [6, 20, 42, 72, 110, 156]

/-- `511·sin(π·k/8192)` as a fraction with a positive denominator, its error below 10^-6 for
`0 ≤ k ≤ 4096` (R400: "Any evaluation of the sine with absolute error below 10⁻⁵ yields exactly this
table"; log entry 7). -/
def sine511 (k : Nat) : Int × Int :=
  let n : Int := k * piNum
  let d : Int := 8192 * piDen
  let t := sineTail (n * n) (d * d) sineCoeffs
  (Config.lutPeak * n * t.1, d * t.2)

/-- R400: the nearest integer to `511·sin(π·k/8192)`, for the first quarter, `0 ≤ k ≤ 4096`. -/
def lutQuarter (k : Nat) : Int :=
  let f := sine511 k
  floorDiv (2 * f.1 + f.2) (2 * f.2)

/-- R400, R401: entry `m` of the largest table (16384 entries), from its first quarter. -/
def lutFull (m : Nat) : Int :=
  if m ≤ 4096 then lutQuarter m
  else if m ≤ 8192 then lutQuarter (8192 - m)
  else if m ≤ 12288 then -lutQuarter (m - 8192)
  else -lutQuarter (16384 - m)

/-- R400: the number of entries, `N = 2^LUT_BITS`. -/
def lutSize (L : LutBits) : Nat := 2 ^ L.bits

/-- R400: `LUT[i]` for `0 ≤ i < N`. Entry `i` of a table of `N` entries is entry `i·16384/N` of the
largest table: both are `511·sin(2π·i/N)` rounded. -/
def lut (L : LutBits) (i : Nat) : Int := lutFull (i * 2 ^ (14 - L.bits))

/-- R402: the table index, `p[31 : 32−LUT_BITS]`. -/
def phaseIndex (L : LutBits) (p : Word) : Nat := p.toNat / 2 ^ (32 - L.bits)

/-- R402: the interpolation fraction, the next 10 bits. -/
def phaseFrac (L : LutBits) (p : Word) : Nat := p.toNat / 2 ^ (22 - L.bits) % 1024

/-- R402: the interpolated sample at phase `p`. -/
def interp (L : LutBits) (p : Word) : Int :=
  let s0 := lut L (phaseIndex L p)
  let s1 := lut L ((phaseIndex L p + 1) % lutSize L)
  s0 + floorDiv ((s1 - s0) * phaseFrac L p) 1024

/-! ## Increments and offsets (R410, R411) -/

/-- R410: the phase increment of a signed frequency in mHz,
`sign(f) · floor_div(|f| · 2^32 + 25 000 000, 50 000 000)`. -/
def phaseInc (f : Int) : Word := u32 (f.sign * floorDiv (f.natAbs * 2 ^ 32 + 25000000) Config.fPwmMhz)

/-- R411: the phase offset of an angle in cdeg. -/
def phaseOff (d : Word) : Word := u32 (floorDiv (unsigned d * 2 ^ 32 + 18000) 36000)

end Sys2Proof.Machine
end

