-- ==== Sys2Proof/Machine/Filters.lean ====
section
/-!
DEFINITION. The filter cores (spec/41_filters.md R500 to R532): pass-through, IIR and FIR in fixed
point, one state per channel, and the filter reset.
-/

namespace Sys2Proof.Machine

open Sys2Proof

/-- R510: one IIR step. The stored history is the full-precision `yq`; the output is rounded. -/
def iirStep (alpha : BitVec 16) (x : Int) (ch : ChanFilter) : Int × ChanFilter :=
  let a : Int := alpha.toNat
  let yq := a * x + floorDiv ((65536 - a) * s32 ch.iirY) 65536
  (rhu yq 16, { ch with iirY := u32 yq })

/-- R521: the accumulator over a ring whose newest sample is at `w`: `Σ FIR_COEFF[p][k] · hist[(w − k) mod 8]`. -/
def firAcc (tab : FirTable) (p : FirProfile) (hist : Vector Word 8) (w : Fin 8) : Int :=
  ((List.finRange 8).map fun k => (tab p k).toInt * s32 hist[w - k]).sum

/-- R521: one FIR step: store the newest sample, weigh the ring, advance the write index. -/
def firStep (tab : FirTable) (p : FirProfile) (x : Int) (ch : ChanFilter) : Int × ChanFilter :=
  let hist := ch.firHist.set ch.firPtr.val (u32 x) ch.firPtr.isLt
  (rhu (firAcc tab p hist ch.firPtr) 15, { ch with firHist := hist, firPtr := ch.firPtr + 1 })

/-- R500: filter dispatch for one channel under the block `S`. -/
def filterStep (tab : FirTable) (S : DdsBlock) (x : Int) (ch : ChanFilter) : Int × ChanFilter :=
  match S.kind with
  | .none => (x, ch)
  | .iir => iirStep S.alpha x ch
  | .fir => firStep tab S.firp x ch

/-- R530: `filter_reset()`: all four channels' histories and indices to 0. -/
def filterReset (s : State) : State := { s with filters := Vector.replicate 4 .zero }

end Sys2Proof.Machine
end

