-- ==== Sys2Proof/Machine/Dds.lean ====
section
/-!
DEFINITION. The DDS engine's agent steps (spec/40_dds_engine.md R420 to R445): synthesis of a buffer
half by SYN, its consumption by DMA, and the completion handler. Each function that depends on a
build parameter (R7: `LUT_BITS`, `FIR_COEFF`) takes it as an argument.
-/

namespace Sys2Proof.Machine

open Sys2Proof

/-! ## The sample pipeline (R420 to R424) -/

/-- R140, R412: the phase offset of channel `c`; channel 0 is the fixed reference. -/
def channelOffset (S : DdsBlock) (c : Fin 4) : Word :=
  match c with
  | 0 => 0
  | 1 => S.off1
  | 2 => S.off2
  | 3 => S.off3

/-- R420: the scaled sample of channel `c` before its filter. -/
def scaledSample (L : LutBits) (S : DdsBlock) (c : Fin 4) (phase : Word) : Int :=
  rhu ((S.amp.toNat : Int) * interp L (phase + channelOffset S c)) 15

/-- R420: the last step, `clamp(y + 512, 0, 1023)`, as a 10-bit compare value. -/
def compareValue (y : Int) : BitVec 10 := BitVec.ofInt 10 (clamp (y + Config.dcOffset) 0 Config.ccMax)

/-- R420 to R422: one channel at one tick: its compare value and its filter's next state. -/
def synth (L : LutBits) (tab : FirTable) (S : DdsBlock) (c : Fin 4) (phase : Word) (ch : ChanFilter) :
    BitVec 10 × ChanFilter :=
  if S.en then
    let r := filterStep tab S (scaledSample L S c phase) ch
    (compareValue (if S.pm.toNat ≤ c.val then 0 else r.1), r.2)
  else (512, ch)

/-- R420, R423: the four channels of one tick; each has its own filter state. -/
def synthTick (L : LutBits) (tab : FirTable) (S : DdsBlock) (phase : Word) (fs : Vector ChanFilter 4) :
    Vector (BitVec 10 × ChanFilter) 4 :=
  Vector.ofFn fun c => synth L tab S c phase fs[c]

/-- R150, R423: a buffer word, the even channel in [9:0] and the odd one in [25:16]. -/
def packWord (even odd : BitVec 10) : Word := odd.setWidth 32 <<< 16 ||| even.setWidth 32

/-- R424: the master phase after a tick. -/
def nextPhase (S : DdsBlock) (phase : Word) : Word := if S.en then phase + S.phaseInc else phase

/-- R430: what the ticks of one half produce. -/
structure HalfRun where
  /-- the words of slice A and slice B, tick by tick -/
  words   : List (Word × Word)
  phase   : Word
  filters : Vector ChanFilter 4

/-- R430: `n` ticks from a master phase and a filter state, all from the one snapshot `S` (R432). -/
def synthRun (L : LutBits) (tab : FirTable) (S : DdsBlock) : Nat → Word → Vector ChanFilter 4 → HalfRun
  | 0, phase, fs => ⟨[], phase, fs⟩
  | n + 1, phase, fs =>
    let t := synthTick L tab S phase fs
    let rest := synthRun L tab S n (nextPhase S phase) (t.map (·.2))
    ⟨(packWord t[0].1 t[1].1, packWord t[2].1 t[3].1) :: rest.words, rest.phase, rest.filters⟩

/-! ## REFILL (R430 to R433) -/

/-- R430: REFILL's enabling condition. -/
def refillEnabled (s : State) : Bool := s.status.sysinit && s.bufs.free.get s.bufs.nextFill

/-- R431: swap. The pending block becomes active and is copied over the old active one; a change of
filter kind resets the filters. -/
def swap (s : State) : State :=
  let s' := { s with status.activeSel := !s.status.activeSel, status.pub := false,
                     ddsA := s.pendingBlock, ddsB := s.pendingBlock }
  if s.pendingBlock.kind = s.activeBlock.kind then s' else filterReset s'

/-- R433: start the consumer once both halves are filled. -/
def startConsumer (s : State) : State :=
  if !s.status.started && s.bufs.ready.h0 && s.bufs.ready.h1 then
    { s with status.started := true,
             bufs := { s.bufs with playHalf := .h0, tickPos := 0, ready := s.bufs.ready.set .h0 false } }
  else s

/-- R430: both slices' words of half `h` into buffer memory. -/
def storeHalf (m : Memory) (h : Half) (words : List (Word × Word)) : Memory :=
  (m.writeWords (bufAddr .a h 0) (words.map (·.1))).writeWords (bufAddr .b h 0) (words.map (·.2))

/-- R430: the fill of half `h` by the active block, marked ready. -/
def fillHalf (L : LutBits) (tab : FirTable) (h : Half) (s : State) : State :=
  let r := synthRun L tab s.activeBlock Config.bufTicks s.masterPhase s.filters
  { s with mem := storeHalf s.mem h r.words, masterPhase := r.phase, filters := r.filters,
           bufs := { s.bufs with ready := s.bufs.ready.set h true, nextFill := h.other } }

/-- R430: REFILL, one atomic step, where enabled. -/
def refill (L : LutBits) (tab : FirTable) (s : State) : State :=
  let h := s.bufs.nextFill
  let s1 := { s with bufs.free := s.bufs.free.set h false }
  let s2 := if s1.status.pub then swap s1 else s1
  startConsumer (fillHalf L tab h s2)

/-! ## TICK (R440, R441) -/

/-- R440: TICK's enabling condition. -/
def tickEnabled (s : State) : Bool := s.status.started

/-- R440: the end of a half: completion, and the chain to the partner, ready or not (R441). -/
def finishHalf (s : State) : State :=
  let h := s.bufs.playHalf
  let n := h.other
  let s1 := { s with bufs := { s.bufs with irq := s.bufs.irq.set h true, playHalf := n, tickPos := 0 } }
  if s.bufs.ready.get n then { s1 with bufs.ready := s.bufs.ready.set n false } else raise .underrun s1

/-- R440: TICK, one atomic step, where enabled. -/
def tick (s : State) : State :=
  let s1 := { s with pwmOutA := bufWord s .a s.bufs.playHalf s.bufs.tickPos.val,
                     pwmOutB := bufWord s .b s.bufs.playHalf s.bufs.tickPos.val,
                     tickCount := s.tickCount + 1 }
  if s.bufs.tickPos.val + 1 = Config.bufTicks then finishHalf s1
  else { s1 with bufs.tickPos := s.bufs.tickPos + 1 }

/-! ## ISR (R445) -/

/-- R445: ISR's enabling condition for half `h`. -/
def isrEnabled (h : Half) (s : State) : Bool := s.bufs.irq.get h

/-- R445: ISR for half `h`, one atomic step, where enabled. -/
def isr (h : Half) (s : State) : State :=
  { s with bufs := { s.bufs with irq := s.bufs.irq.set h false, free := s.bufs.free.set h true } }

end Sys2Proof.Machine
end

