-- ==== Sys2Proof/Machine/Targets.lean ====
section
/-!
DEFINITION. The helpers the motor commands and UPDATE share (spec/42_motor_commands.md R602 to R606,
R619, R623) over the effective configuration (spec/44_register_access.md R830), and the relay
evaluation (spec/43_motor_update.md R760 to R762).
-/

namespace Sys2Proof.Machine

open Sys2Proof

/-! ## Targets (R602 to R605) -/

/-- R604: the effective pitch in cp. -/
def effPitch (s : State) : Int :=
  clamp (s32 s.pitchRaw) (-(100 * unsigned s.cfg.pitchRange)) (100 * unsigned s.cfg.pitchRange)

/-- R830: the effective minimum of a profile. -/
def effMin (p : SpeedProfile) : Int := min (unsigned p.minMhz) (unsigned p.maxMhz)

/-- R830: the effective maximum of a profile. -/
def effMax (p : SpeedProfile) : Int := max (unsigned p.minMhz) (unsigned p.maxMhz)

/-- R830: the effective nominal frequency of a profile. -/
def effNominal (p : SpeedProfile) : Int := clamp (unsigned p.nominalMhz) (effMin p) (effMax p)

/-- R602: the target frequency of speed `k`, in mHz. -/
def targetFreq (s : State) (k : Speed) : Int :=
  let p := s.profiles.get k
  let nom := effNominal p
  clamp (nom + floorDiv (nom * effPitch s) 10000) (effMin p) (effMax p)

/-- R603: the target amplitude in Q1.15. -/
def targetAmp (s : State) : Int := floorDiv (unsigned s.cfg.maxAmpPct * 32768 + 50) 100

/-- R605: the speed BOOT_CFG selects. -/
def bootSpeed (c : GlobalConfig) : Speed :=
  let k := match c.bootSpeed with
    | .fixed k => k
    | .lastUsed => c.lastSpeed
  if k = .rpm78 ∧ c.en78 = false then .rpm33 else k

/-! ## Shared sub-steps (R606, R619, R623) -/

/-- R606: Starting entry. -/
def doStart (s : State) : State :=
  { s with
    status := { s.status with motor := .starting, ampReduced := false, swActive := false }
    stateEpoch := s.timeMs
    misc.stSpeed := s.status.speedIdx
    latches := { s.latches with
      stTgt := u32 (targetFreq s s.status.speedIdx), stAmp := u32 (targetAmp s), rtAcc := 0 }
    sessionRt := 0 }

/-- R619: speed change. In Running with SMOOTH_SW = 1 it begins a switch ramp, from the current frequency. Any
other change snaps at the next UPDATE (R619, D27). DEDUCED: it ends a ramp in progress by clearing
SW_ACTIVE, a write the rule's pseudocode does not show (log entry 22). -/
def changeSpeed (n : Speed) (s : State) : State :=
  if n = s.status.speedIdx then s
  else if s.status.motor = .running ∧ s.cfg.smoothSw = true then
    { s with
      status := { s.status with speedIdx := n, swActive := true }
      latches := { s.latches with
        swFrom := s.curFreq, swTo := u32 (targetFreq s n), swEpoch := s.timeMs } }
  else { s with status := { s.status with speedIdx := n, swActive := false } }

/-- R623: every configuration register takes its default. -/
def restoreDefaults (s : State) : State := { s with cfg := .default, profiles := .default }

/-! ## Relays (R760 to R762) -/

/-- R760: `act`, the states in which the motor is driven. -/
def MotorState.acting : MotorState → Bool
  | .standby => false
  | .stopped => false
  | .starting => true
  | .running => true
  | .stopping => true

/-- R760: whether the mute relays are desired. -/
def relayDesired (s : State) : Bool :=
  s.misc.graceDone && !s.status.critMute && (!s.cfg.linkStartstop || s.status.motor.acting)
    && (!s.cfg.linkStandby || s.status.motor != .standby)

/-- R760: relay evaluation. A rising edge of the desire begins a new staircase. -/
def relayEval (s : State) : State :=
  let desired := relayDesired s
  let rising := desired && !s.misc.relayPrev
  let epoch := if rising then s.timeMs else s.latches.stairEpoch
  let engaged := if rising then 0 else s.misc.relayN.toNat
  let n := if desired then
      min s.cfg.phaseMode.toNat (max engaged (1 + s.elapsed epoch / Config.relayStepMs))
    else 0
  { s with latches.stairEpoch := epoch, misc.relayPrev := desired, misc.relayN := BitVec.ofNat 3 n }

/-- R761, R762: the level a relay pin is driven to. -/
def pinLevel (activeHigh asserted : Bool) : Bool := if asserted then activeHigh else !activeHigh

/-- R761: whether channel `c`'s mute relay is engaged. -/
def relayEngaged (s : State) (c : Nat) : Bool := decide (c < s.misc.relayN.toNat)

/-- R762: whether the standby relay is asserted. -/
def standbyAsserted (s : State) : Bool := s.status.motor != .standby

/-- R107: the word `RELAY` reads as. -/
def relayWord (s : State) : Word :=
  let pin := fun c => pinLevel s.cfg.activeHigh (relayEngaged s c)
  BitVec.ofNat 32 (bit 0 (relayEngaged s 0) + bit 1 (relayEngaged s 1) + bit 2 (relayEngaged s 2)
    + bit 3 (relayEngaged s 3) + bit 4 (standbyAsserted s) + bit 8 (pin 0) + bit 9 (pin 1)
    + bit 10 (pin 2) + bit 11 (pin 3) + bit 12 (pinLevel s.cfg.activeHigh (standbyAsserted s)))

end Sys2Proof.Machine
end

