-- ==== Sys2Proof/Machine/Update.lean ====
section
/-!
DEFINITION. The body of UPDATE, the control tick (spec/43_motor_update.md R700 to R753): time
bookkeeping, runtime counters, the ramp generators and the FDA modulator, the evaluation of each motor
state, and the publication of the DDSState block. The relay evaluation that follows it is the
command's (Machine/Commands.lean).
-/

namespace Sys2Proof.Machine

open Sys2Proof

/-! ## Ramps and modulators (R710 to R720) -/

/-- R710: linear interpolation between two values. -/
def lerp (v0 v1 t T : Int) : Int := if T ≤ t then v1 else v0 + floorDiv ((v1 - v0) * t) T

/-- R711: the linear soft-start ramp. -/
def rampLin (tg t T : Int) : Int := if T ≤ t then tg else floorDiv (tg * t) T

/-- R712: the S-curve soft-start ramp, its cosine read from the sine table a quarter turn ahead. -/
def rampS (L : LutBits) (tg t T : Int) : Int :=
  if T ≤ t then tg
  else floorDiv (tg * (511 - interp L (u32 (0x40000000 + floorDiv (t * 2 ^ 31) T)))) 1022

/-- R713: ramp selection. -/
def ramp (L : LutBits) (ty : RampType) (tg t T : Int) : Int :=
  match ty with
  | .linear => rampLin tg t T
  | .sCurve => rampS L tg t T

/-- R720: the frequency-dependent amplitude modulator with ratio `r` percent. -/
def fda (r a f tgt : Int) : Int :=
  if r = 0 then a
  else
    let q16 := clamp (floorDiv (f * 65536) tgt) 0 65536
    let sc := floorDiv (r * 65536 + (100 - r) * q16) 100
    floorDiv (a * sc) 65536

/-- R736: `pct_of(x, p) = floor_div(x·p + 50, 100)`. -/
def pctOf (x p : Int) : Int := floorDiv (x * p + 50) 100

/-! ## Time and counters (R701 to R703) -/

/-- R701, R702: feed the watchdog, note the time, and end the power-on grace period when due. -/
def bookTime (s : State) : State :=
  { s with
    latches := { s.latches with lastUpdate := s.timeMs, wdtFeed := s.timeMs }
    misc.graceDone := s.misc.graceDone || decide (s.cfg.powerOnDelayMs.toNat ≤ s.timeMs.toNat) }

/-- R703: the whole seconds in the accumulated milliseconds go to both counters, the rest stays. -/
def countRuntime (dt : Nat) (s : State) : State :=
  let acc := s.latches.rtAcc.toNat + dt
  let secs := acc / Config.runtimeQuantumMs
  { s with
    sessionRt := s.sessionRt + BitVec.ofNat 32 secs
    totalRt := s.totalRt + BitVec.ofNat 32 secs
    latches.rtAcc := BitVec.ofNat 32 (acc % Config.runtimeQuantumMs) }

/-! ## Per-state evaluation (R730 to R740) -/

/-- R700: the frequency, amplitude and enable a state asks of the DDS. -/
structure Drive where
  f  : Int
  a  : Int
  en : Bool
  deriving DecidableEq, Repr

/-- R731: auto-standby, in Stopped only. -/
def autoStandby (s : State) : State :=
  if s.status.motor = .stopped ∧ 0 < s.cfg.autoStandbyMin.toNat
      ∧ s.cfg.autoStandbyMin.toNat * 60000 ≤ s.elapsed s.stateEpoch then s.enter .standby
  else s

/-- R730: Standby and Stopped. -/
def evalIdle (tgt : Int) (s : State) : Drive × State := (⟨tgt, 0, false⟩, autoStandby s)

/-- R732: the frequency while Starting, with the startup kick of profile `p` at time `t`. -/
def startingFreq (p : SpeedProfile) (tgt t : Int) : Int :=
  let km := unsigned p.kickMult
  let hold := unsigned p.kickHoldMs
  let rampMs := unsigned p.kickRampMs
  if 1 < km ∧ t < hold then tgt * km
  else if 1 < km ∧ t < hold + rampMs then lerp (tgt * km) tgt (t - hold) rampMs
  else tgt

/-- R734: the soft start and the kick of profile `p` are both complete at time `t`. -/
def startingDone (p : SpeedProfile) (t : Int) : Bool :=
  decide (unsigned p.softStartMs ≤ t
    ∧ (unsigned p.kickMult = 1 ∨ unsigned p.kickHoldMs + unsigned p.kickRampMs ≤ t))

/-- R734: entry to Running. -/
def enterRunning (s : State) : State :=
  { s.enter .running with
    status := { s.status with motor := .running, ampReduced := false }
    latches.redEpoch := s.timeMs }

/-- R732 to R734: Starting. -/
def evalStarting (L : LutBits) (s : State) : Drive × State :=
  let p := s.profiles.get s.misc.stSpeed
  let t : Int := s.elapsed s.stateEpoch
  let tgt := s32 s.latches.stTgt
  let f := startingFreq p tgt t
  let a := fda (unsigned s.cfg.fdaPct)
    (ramp L s.cfg.rampType (unsigned s.latches.stAmp) t (unsigned p.softStartMs)) f tgt
  (⟨f, a, true⟩, if startingDone p t then enterRunning s else s)

/-- R735: the frequency while Running, and whether the switch ramp goes on. -/
def runningFreq (tgt : Int) (s : State) : Int × Bool :=
  if s.status.swActive then
    let ts : Int := s.elapsed s.latches.swEpoch
    if unsigned s.cfg.swRampMs ≤ ts then (s32 s.latches.swTo, false)
    else (lerp (s32 s.latches.swFrom) (s32 s.latches.swTo) ts (unsigned s.cfg.swRampMs), true)
  else (tgt, false)

/-- R736: whether the amplitude reduction has latched, at this UPDATE or before. -/
def reductionLatched (s : State) : Bool :=
  s.status.ampReduced
    || decide ((s.profiles.get s.status.speedIdx).redDelayMs.toNat ≤ s.elapsed s.latches.redEpoch)

/-- R735, R736: Running. -/
def evalRunning (tgt tamp : Int) (s : State) : Drive × State :=
  let fr := runningFreq tgt s
  let red := reductionLatched s
  let a := if red then pctOf tamp (unsigned (s.profiles.get s.status.speedIdx).redPct) else tamp
  (⟨fr.1, fda (unsigned s.cfg.fdaPct) a fr.1 tgt, true⟩,
    { s with status.swActive := fr.2, status.ampReduced := red })

/-- R737 to R739: the frequency and amplitude of a brake mode at time `t`. -/
def brakeDrive (s : State) (t T : Int) : Int × Int :=
  match s.cfg.brakeMode with
  | .off => (s32 s.latches.stopF0, lerp (unsigned s.latches.stopA0) 0 t T)
  | .ramp => (lerp (unsigned s.cfg.brakeStartMhz) (unsigned s.cfg.brakeStopMhz) t T,
      lerp (unsigned s.latches.stopA0) 0 t T)
  | .pulse => (-s32 s.latches.stopTgt,
      if floorDiv t (unsigned s.cfg.pulseGapMs) % 2 = 0 then unsigned s.latches.stopTamp else 0)

/-- R737 to R740: Stopping. -/
def evalStopping (s : State) : Drive × State :=
  let t : Int := s.elapsed s.stateEpoch
  let T := unsigned s.cfg.brakeMs
  if T ≤ t then (⟨(s32 s.latches.stopTgt).natAbs, 0, false⟩, s.enter .stopped)
  else
    let d := brakeDrive s t T
    (⟨d.1, d.2, true⟩, s)

/-- R700: the case over the motor state. -/
def evalState (L : LutBits) (s : State) : Drive × State :=
  let tgt := targetFreq s s.status.speedIdx
  match s.status.motor with
  | .standby => evalIdle tgt s
  | .stopped => evalIdle tgt s
  | .starting => evalStarting L s
  | .running => evalRunning tgt (targetAmp s) s
  | .stopping => evalStopping s

/-! ## Building and publishing the block (R750 to R753) -/

/-- R750: the profile in use after this UPDATE's transitions. -/
def profileInUse (s : State) : SpeedProfile :=
  s.profiles.get (if s.status.motor = .starting then s.misc.stSpeed else s.status.speedIdx)

/-- R751: the block the drive and the profile make. -/
def buildBlock (s : State) (d : Drive) (p : SpeedProfile) : DdsBlock where
  baseFreq := u32 d.f
  phaseInc := phaseInc d.f
  off1 := phaseOff p.phase1Cdeg
  off2 := phaseOff p.phase2Cdeg
  off3 := phaseOff p.phase3Cdeg
  amp := BitVec.ofInt 16 d.a
  en := d.en
  kind := p.filterKind
  firp := p.firp
  pm := s.cfg.phaseMode.setWidth 3
  alpha := p.alphaQ16.setWidth 16

/-- R752: publish if the block differs from PENDING. `OFF0` is 0 in both, so the blocks differ in a
word exactly where they differ in a field. -/
def publish (b : DdsBlock) (s : State) : State :=
  if b = s.pendingBlock then s else { s.setPending b with status.pub := true }

/-- R753: the status bus. -/
def writeStatusBus (d : Drive) (s : State) : State :=
  { s with curFreq := u32 d.f, curAmp := BitVec.ofInt 16 d.a, curEn := d.en }

/-- R700: UPDATE, up to the relay evaluation. -/
def updateBody (L : LutBits) (s : State) : State :=
  let dt := s.elapsed s.latches.lastUpdate
  let s1 := bookTime s
  let s2 := if s.status.motor = .running then countRuntime dt s1 else s1
  let r := evalState L s2
  let b := buildBlock r.2 r.1 (profileInUse r.2)
  writeStatusBus r.1 (publish b r.2)

end Sys2Proof.Machine
end

