-- ==== Sys2Proof/Machine/Commands.lean ====
section
/-!
DEFINITION. The meaning of every command (spec/42_motor_commands.md R600 to R624), one definition per
constructor of `Instr`. Every command completes in its one step ("the controller never blocks").
-/

namespace Sys2Proof.Machine

open Sys2Proof

/-- What a command answers. -/
abbrev Result := Host.Outcome State Fault Refusal

/-- R600: commands 0x02 to 0x0A: no effect before INIT, else the body and the relay evaluation. -/
def gated (body : State → State) (s : State) : Result :=
  .next (if s.status.sysinit then relayEval (body s) else s)

/-- R610: NOP. -/
def execNop (s : State) : Result := .next s

/-- R611: the boot state INIT enters. -/
def bootState (s : State) : State :=
  if s.cfg.autoBoot then
    if s.cfg.autoStart then doStart (s.enter .stopped) else s.enter .stopped
  else s

/-- R611: the first INIT, up to the relay evaluation. -/
def initBody (s : State) : State :=
  let s1 := bootState { s with status.speedIdx := bootSpeed s.cfg, pitchRaw := 0 }
  { s1 with
    status := { s1.status with sysinit := true, wdtArmed := true }
    latches := { s1.latches with wdtFeed := s.timeMs, lastUpdate := s.timeMs } }

/-- R611: INIT, one-shot. -/
def execInit (s : State) : Result := .next (if s.status.sysinit then s else relayEval (initBody s))

/-- R612: UPDATE. -/
def execUpdate (s : State) : Result := gated (updateBody Config.lutBits) s

/-- R613: START's own effects. From Standby it passes through Stopped in the one step. -/
def startBody (s : State) : State :=
  let s1 := { s with status.critMute := false }
  match s.status.motor with
  | .standby => doStart (s1.enter .stopped)
  | .stopped => doStart s1
  | .starting => s1
  | .running => s1
  | .stopping => s1

/-- R613: START. -/
def execStart (s : State) : Result := gated startBody s

/-- R614: STOP's own effects. It latches what the last UPDATE computed (R1023). -/
def stopBody (s : State) : State :=
  if s.status.motor = .starting ∨ s.status.motor = .running then
    { s.enter .stopping with
      status := { s.status with motor := .stopping, swActive := false }
      latches := { s.latches with
        stopA0 := s.curAmp.setWidth 32, stopF0 := s.curFreq
        stopTgt := u32 (targetFreq s s.status.speedIdx), stopTamp := u32 (targetAmp s) } }
  else s

/-- R614: STOP. -/
def execStop (s : State) : Result := gated stopBody s

/-- R615: TOGGLE_STANDBY's own effects. -/
def toggleStandbyBody (s : State) : State :=
  let s1 := { s with status.critMute := false }
  if s.status.motor = .standby then s1.enter .stopped
  else { s1 with status.swActive := false }.enter .standby

/-- R615: TOGGLE_STANDBY. -/
def execToggleStandby (s : State) : Result := gated toggleStandbyBody s

/-- R616: WAKE's own effects. -/
def wakeBody (s : State) : State :=
  let s1 := { s with status.critMute := false }
  if s.status.motor = .standby then s1.enter .stopped else s1

/-- R616: WAKE. -/
def execWake (s : State) : Result := gated wakeBody s

/-- R617: the next speed of the cycle 0, 1, 2, which skips 2 while 78 RPM is disabled. -/
def nextSpeed (k : Speed) (en78 : Bool) : Speed :=
  match k with
  | .rpm33 => .rpm45
  | .rpm45 => if en78 then .rpm78 else .rpm33
  | .rpm78 => .rpm33

/-- R617: CYCLE_SPEED. -/
def execCycleSpeed (s : State) : Result :=
  gated (fun s => changeSpeed (nextSpeed s.status.speedIdx s.cfg.en78) s) s

/-- R618: SET_SPEED's own effects: change the speed, or raise CMDERR. -/
def setSpeedBody (n : Nat) (s : State) : State :=
  match speedOperand n s.cfg.en78 with
  | some k => changeSpeed k s
  | none => raise .cmderr s

/-- R618: SET_SPEED. The relay evaluation runs whether or not the speed was accepted. -/
def execSetSpeed (speed : Nat) (s : State) : Result := gated (setSpeedBody speed) s

/-- R620: SET_PITCH. -/
def execSetPitch (pitch : Int) (s : State) : Result :=
  gated (fun s => { s with pitchRaw := pitchOperand pitch }) s

/-- R621: RESET_PITCH. -/
def execResetPitch (s : State) : Result := gated (fun s => { s with pitchRaw := 0 }) s

/-- R622, R902: the display duration of a report. -/
def displayMs (crit : Bool) (c : GlobalConfig) : Word :=
  if crit then BitVec.ofNat 32 (max c.errDispMs.toNat Config.critDisplayMinMs) else c.errDispMs

/-- R622, R902, R903: recording an accepted report. -/
def recordError (k : ErrorKind) (crit : Bool) (s : State) : State :=
  { s with
    errStatus := ⟨k, crit, true⟩
    errDisplayMs := displayMs crit s.cfg
    status := { s.status with hasCrit := s.status.hasCrit || crit, critMute := s.status.critMute || crit } }

/-- R622: REPORT_ERROR's effects: record, mute, load defaults for SettingsCorrupt, evaluate relays
(R913), or raise CMDERR and nothing else. -/
def reportErrorBody (kind : Nat) (crit : Bool) (s : State) : State :=
  match errorKindOperand kind with
  | none => raise .cmderr s
  | some k =>
    let s1 := recordError k crit s
    relayEval (if k = .settingsCorrupt then restoreDefaults s1 else s1)

/-- R622: REPORT_ERROR. It works before INIT. -/
def execReportError (kind : Nat) (crit : Bool) (s : State) : Result :=
  .next (reportErrorBody kind crit s)

/-- R623, R600: LOAD_DEFAULTS, and the relay evaluation. It works before INIT. -/
def execLoadDefaults (s : State) : Result := .next (relayEval (restoreDefaults s))

end Sys2Proof.Machine
end

