-- ==== Sys2Proof/Machine/Dispatch.lean ====
section
/-!
DEFINITION. The dispatch of a command to its meaning (spec/42_motor_commands.md R600), one arm per
constructor of Instr.
-/

namespace Sys2Proof.Machine

open Sys2Proof

def exec (i : Instr) (s : State) : Host.Outcome State Fault Refusal :=
  match i with
  | .nop => Sys2Proof.Machine.execNop s
  | .init => Sys2Proof.Machine.execInit s
  | .update => Sys2Proof.Machine.execUpdate s
  | .start => Sys2Proof.Machine.execStart s
  | .stop => Sys2Proof.Machine.execStop s
  | .toggleStandby => Sys2Proof.Machine.execToggleStandby s
  | .wake => Sys2Proof.Machine.execWake s
  | .cycleSpeed => Sys2Proof.Machine.execCycleSpeed s
  | .setSpeed speed => Sys2Proof.Machine.execSetSpeed speed s
  | .setPitch pitch => Sys2Proof.Machine.execSetPitch pitch s
  | .resetPitch => Sys2Proof.Machine.execResetPitch s
  | .reportError kind crit => Sys2Proof.Machine.execReportError kind crit s
  | .loadDefaults => Sys2Proof.Machine.execLoadDefaults s

end Sys2Proof.Machine
end

