-- ==== Sys2Proof/Machine/Registers.lean ====
section
/-!
DEFINITION. The register space (spec/20_memory.md R200 to R204): the address map, the value each
register reads as (spec/10_state.md), and the legalisation of configuration writes
(spec/44_register_access.md R801, R810 to R814).
-/

namespace Sys2Proof.Machine

open Sys2Proof

/-! ## Register names (R204) -/

/-- R118: the latch registers. -/
inductive LatchReg where
  | stTgt | stAmp | stopA0 | stopF0 | stopTgt | stopTamp | swFrom | swTo | swEpoch | redEpoch
  | stairEpoch | wdtFeed | lastUpdate | rtAcc
  deriving DecidableEq, Repr

/-- R160: the global configuration registers. -/
inductive GlobalReg where
  | phaseMode | maxAmpPct | rampType | fdaPct | smoothSw | swRampMs | brakeMode | brakeMs | pulseGapMs
  | brakeStartMhz | brakeStopMhz | relayCfg | powerOnDelayMs | autoStandbyMin | bootCfg | pitchRange
  | errDispMs
  deriving DecidableEq, Repr

/-- R170: the registers of a speed profile. -/
inductive ProfileReg where
  | nominalMhz | minMhz | maxMhz | phase0Cdeg | phase1Cdeg | phase2Cdeg | phase3Cdeg | softStartMs
  | kickMult | kickHoldMs | kickRampMs | redPct | redDelayMs | filter | alphaQ16
  deriving DecidableEq, Repr

/-- R140, R141: the two blocks and the two views of them. -/
inductive DdsView where
  | blockA | blockB | active | pending
  deriving DecidableEq, Repr

/-- R204: every register and buffer word of the register space. -/
inductive Reg where
  | id | cmd | status | curFreq | curPitch | curAmp | relay | sessionRt | totalRt | errStatus
  | errDisplayMs | timeMs | masterPhase | bufState | stateEpoch | pwmOutA | pwmOutB | tickCount
  | latch (l : LatchReg)
  | dds (v : DdsView) (w : Fin 8)
  | iirY (c : Fin 4)
  | firPtr
  | firHist (c : Fin 4) (k : Fin 8)
  | smMisc
  | pitchRaw
  | globalCfg (g : GlobalReg)
  | profile (k : Speed) (f : ProfileReg)
  | buf (sl : Slice) (h : Half) (j : Fin 256)
  deriving DecidableEq, Repr

/-! ## The address map (R204) -/

/-- R101 to R118: the registers at 0x000 to 0x07C, in offset order. -/
def coreRegs : List Reg :=
  [.id, .cmd, .status, .curFreq, .curPitch, .curAmp, .relay, .sessionRt, .totalRt, .errStatus,
   .errDisplayMs, .timeMs, .masterPhase, .bufState, .stateEpoch, .pwmOutA, .pwmOutB, .tickCount,
   .latch .stTgt, .latch .stAmp, .latch .stopA0, .latch .stopF0, .latch .stopTgt, .latch .stopTamp,
   .latch .swFrom, .latch .swTo, .latch .swEpoch, .latch .redEpoch, .latch .stairEpoch,
   .latch .wdtFeed, .latch .lastUpdate, .latch .rtAcc]

/-- R160: the registers at 0x200 to 0x240, in offset order. -/
def globalRegs : List GlobalReg :=
  [.phaseMode, .maxAmpPct, .rampType, .fdaPct, .smoothSw, .swRampMs, .brakeMode, .brakeMs,
   .pulseGapMs, .brakeStartMhz, .brakeStopMhz, .relayCfg, .powerOnDelayMs, .autoStandbyMin, .bootCfg,
   .pitchRange, .errDispMs]

/-- R170: the registers of a profile at +0x00 to +0x38, in offset order; +0x3C is reserved. -/
def profileRegs : List ProfileReg :=
  [.nominalMhz, .minMhz, .maxMhz, .phase0Cdeg, .phase1Cdeg, .phase2Cdeg, .phase3Cdeg, .softStartMs,
   .kickMult, .kickHoldMs, .kickRampMs, .redPct, .redDelayMs, .filter, .alphaQ16]

/-- R140, R141: the blocks and views from 0x080 on, 0x20 bytes each. -/
def ddsViewAt (n : Nat) : DdsView :=
  match n with
  | 0 => .blockA
  | 1 => .blockB
  | 2 => .active
  | _ => .pending

/-- The speed whose profile is the n-th from 0x300. -/
def speedAt (n : Nat) : Speed :=
  match n with
  | 0 => .rpm33
  | 1 => .rpm45
  | _ => .rpm78

/-- R150: the slice and half of the n-th 0x400 bytes from 0x1000. -/
def bufQuarter (n : Nat) : Slice × Half :=
  match n with
  | 0 => (.a, .h0)
  | 1 => (.a, .h1)
  | 2 => (.b, .h0)
  | _ => (.b, .h1)

/-- R204, R180: the register at an aligned offset, nothing where the offset is reserved. -/
def regAt (off : Nat) : Option Reg :=
  if off < 0x080 then coreRegs[off / 4]?
  else if off < 0x100 then some (.dds (ddsViewAt ((off - 0x080) / 0x20)) (Fin.ofNat 8 (off % 0x20 / 4)))
  else if off < 0x110 then some (.iirY (Fin.ofNat 4 (off % 0x10 / 4)))
  else if off < 0x114 then some .firPtr
  else if off < 0x120 then none
  else if off < 0x1A0 then
    some (.firHist (Fin.ofNat 4 ((off - 0x120) / 0x20)) (Fin.ofNat 8 ((off - 0x120) % 0x20 / 4)))
  else if off < 0x1A4 then some .smMisc
  else if off < 0x1A8 then some .pitchRaw
  else if off < 0x200 then none
  else if off < 0x244 then globalRegs[(off - 0x200) / 4]?.map .globalCfg
  else if off < 0x300 then none
  else if off < 0x3C0 then profileRegs[off % 0x40 / 4]?.map (.profile (speedAt ((off - 0x300) / 0x40)))
  else if off < 0x1000 then none
  else if off < 0x2000 then
    let q := bufQuarter ((off - 0x1000) / 0x400)
    some (.buf q.1 q.2 (Fin.ofNat 256 (off % 0x400 / 4)))
  else none

/-- R202: the only legal access is 32 bits wide, aligned, and at most at 0x1FFC. -/
def legalAccess (off n : Nat) : Bool := decide (n = 4 ∧ off % 4 = 0 ∧ off ≤ 0x1FFF)

/-! ## Reading a register -/

/-- R118: the value of a latch. -/
def readLatch (l : LatchReg) (t : Latches) : Word :=
  match l with
  | .stTgt => t.stTgt
  | .stAmp => t.stAmp
  | .stopA0 => t.stopA0
  | .stopF0 => t.stopF0
  | .stopTgt => t.stopTgt
  | .stopTamp => t.stopTamp
  | .swFrom => t.swFrom
  | .swTo => t.swTo
  | .swEpoch => t.swEpoch
  | .redEpoch => t.redEpoch
  | .stairEpoch => t.stairEpoch
  | .wdtFeed => t.wdtFeed
  | .lastUpdate => t.lastUpdate
  | .rtAcc => t.rtAcc

/-- R160: the value of a global configuration register; bits no field names read 0 (R9). -/
def readGlobal (g : GlobalReg) (c : GlobalConfig) : Word :=
  match g with
  | .phaseMode => c.phaseMode
  | .maxAmpPct => c.maxAmpPct
  | .rampType => BitVec.ofNat 32 (field 0 c.rampType.code)
  | .fdaPct => c.fdaPct
  | .smoothSw => BitVec.ofNat 32 (bit 0 c.smoothSw)
  | .swRampMs => c.swRampMs
  | .brakeMode => BitVec.ofNat 32 (field 0 c.brakeMode.code)
  | .brakeMs => c.brakeMs
  | .pulseGapMs => c.pulseGapMs
  | .brakeStartMhz => c.brakeStartMhz
  | .brakeStopMhz => c.brakeStopMhz
  | .relayCfg => BitVec.ofNat 32 (bit 0 c.activeHigh + bit 1 c.linkStandby + bit 2 c.linkStartstop)
  | .powerOnDelayMs => c.powerOnDelayMs
  | .autoStandbyMin => c.autoStandbyMin
  | .bootCfg => BitVec.ofNat 32 (field 0 c.bootSpeed.code + bit 2 c.en78 + bit 3 c.autoBoot
      + bit 4 c.autoStart + field 8 c.lastSpeed.code)
  | .pitchRange => c.pitchRange
  | .errDispMs => c.errDispMs

/-- R170: the value of a speed-profile register. -/
def readProfile (f : ProfileReg) (p : SpeedProfile) : Word :=
  match f with
  | .nominalMhz => p.nominalMhz
  | .minMhz => p.minMhz
  | .maxMhz => p.maxMhz
  | .phase0Cdeg => p.phase0Cdeg
  | .phase1Cdeg => p.phase1Cdeg
  | .phase2Cdeg => p.phase2Cdeg
  | .phase3Cdeg => p.phase3Cdeg
  | .softStartMs => p.softStartMs
  | .kickMult => p.kickMult
  | .kickHoldMs => p.kickHoldMs
  | .kickRampMs => p.kickRampMs
  | .redPct => p.redPct
  | .redDelayMs => p.redDelayMs
  | .filter => BitVec.ofNat 32 (field 0 p.filterKind.code + field 4 (firpCode p.firp))
  | .alphaQ16 => p.alphaQ16

/-- R141: the block a view shows at the moment of the read. -/
def viewedBlock (v : DdsView) (s : State) : DdsBlock :=
  match v with
  | .blockA => s.ddsA
  | .blockB => s.ddsB
  | .active => s.activeBlock
  | .pending => s.pendingBlock

/-- R800, R205: the current value of a register, computed as its rule says. CMD reads 0 (R803). -/
def readReg (r : Reg) (s : State) : Word :=
  match r with
  | .id => Config.idValue
  | .cmd => 0
  | .status => statusWord s.status
  | .curFreq => s.curFreq
  | .curPitch => u32 (effPitch s)
  | .curAmp => curAmpWord s.curAmp s.curEn
  | .relay => relayWord s
  | .sessionRt => s.sessionRt
  | .totalRt => s.totalRt
  | .errStatus => errStatusWord s.errStatus
  | .errDisplayMs => s.errDisplayMs
  | .timeMs => s.timeMs
  | .masterPhase => s.masterPhase
  | .bufState => bufStateWord s.bufs
  | .stateEpoch => s.stateEpoch
  | .pwmOutA => s.pwmOutA
  | .pwmOutB => s.pwmOutB
  | .tickCount => s.tickCount
  | .latch l => readLatch l s.latches
  | .dds v w => ddsWord (viewedBlock v s) w
  | .iirY c => s.filters[c].iirY
  | .firPtr => firPtrWord s.filters
  | .firHist c k => s.filters[c].firHist[k]
  | .smMisc => smMiscWord s.misc
  | .pitchRaw => s.pitchRaw
  | .globalCfg g => readGlobal g s.cfg
  | .profile k f => readProfile f (s.profiles.get k)
  | .buf sl h j => bufWord s sl h j.val

/-! ## Legalisation of configuration writes -/

/-- R810, R813: BRAKE_MODE, `v[1:0]` with 3 stored as Off. -/
def legalBrakeMode (v : Word) : BrakeMode :=
  match (v.extractLsb' 0 2).toNat with
  | 1 => .pulse
  | 2 => .ramp
  | _ => .off

/-- R810: RAMP_TYPE, `v[0]`. -/
def legalRampType (v : Word) : RampType := if v.getLsbD 0 then .sCurve else .linear

/-- A stored speed index from a two-bit code, 3 stored as 0 (R813). -/
def legalSpeed (code : Nat) : Speed :=
  match code with
  | 1 => .rpm45
  | 2 => .rpm78
  | _ => .rpm33

/-- R810: BOOT_SPEED, `v[1:0]`, all four codes legal (R813). -/
def legalBootSpeed (v : Word) : BootSpeed :=
  match (v.extractLsb' 0 2).toNat with
  | 3 => .lastUsed
  | n => .fixed (legalSpeed n)

/-- R811, R813: KIND, `v[1:0]` with 3 stored as None. -/
def legalKind (v : Word) : FilterKind :=
  match (v.extractLsb' 0 2).toNat with
  | 1 => .iir
  | 2 => .fir
  | _ => .none

/-- R811, R813: FIRP, `v[5:4]` with 3 stored as Gentle. -/
def legalFirp (v : Word) : FirProfile :=
  match (v.extractLsb' 4 2).toNat with
  | 1 => .medium
  | 2 => .aggressive
  | _ => .gentle

/-- R814: PITCH_RANGE, `10 · floor_div(clampu(v, 10, 50), 10)`. -/
def legalPitchRange (v : Word) : Word := BitVec.ofNat 32 (10 * ((clampu v 10 50).toNat / 10))

/-- R812: a phase offset in cdeg, wrapped: `s32(v) mod 36 000`. -/
def legalCdeg (v : Word) : Word := u32 (s32 v % 36000)

/-- R810: `legal_gc`, a global configuration write. -/
def writeGlobal (g : GlobalReg) (v : Word) (c : GlobalConfig) : GlobalConfig :=
  match g with
  | .phaseMode => { c with phaseMode := clampu v 1 4 }
  | .maxAmpPct => { c with maxAmpPct := clampu v 0 100 }
  | .rampType => { c with rampType := legalRampType v }
  | .fdaPct => { c with fdaPct := clampu v 0 100 }
  | .smoothSw => { c with smoothSw := v.getLsbD 0 }
  | .swRampMs => { c with swRampMs := clampu v 1000 5000 }
  | .brakeMode => { c with brakeMode := legalBrakeMode v }
  | .brakeMs => { c with brakeMs := clampu v 0 60000 }
  | .pulseGapMs => { c with pulseGapMs := clampu v 1 60000 }
  | .brakeStartMhz => { c with brakeStartMhz := clampu v 0 3000000 }
  | .brakeStopMhz => { c with brakeStopMhz := clampu v 0 3000000 }
  | .relayCfg =>
    { c with activeHigh := v.getLsbD 0, linkStandby := v.getLsbD 1, linkStartstop := v.getLsbD 2 }
  | .powerOnDelayMs => { c with powerOnDelayMs := clampu v 0 60000 }
  | .autoStandbyMin => { c with autoStandbyMin := clampu v 0 1440 }
  | .bootCfg =>
    { c with
      bootSpeed := legalBootSpeed v, en78 := v.getLsbD 2, autoBoot := v.getLsbD 3
      autoStart := v.getLsbD 4, lastSpeed := legalSpeed (v.extractLsb' 8 2).toNat }
  | .pitchRange => { c with pitchRange := legalPitchRange v }
  | .errDispMs => { c with errDispMs := clampu v 0 60000 }

/-- R811: `legal_sp`, a speed-profile write. -/
def writeProfile (f : ProfileReg) (v : Word) (p : SpeedProfile) : SpeedProfile :=
  match f with
  | .nominalMhz => { p with nominalMhz := clampu v 10000 3000000 }
  | .minMhz => { p with minMhz := clampu v 10000 3000000 }
  | .maxMhz => { p with maxMhz := clampu v 10000 3000000 }
  | .phase0Cdeg => { p with phase0Cdeg := legalCdeg v }
  | .phase1Cdeg => { p with phase1Cdeg := legalCdeg v }
  | .phase2Cdeg => { p with phase2Cdeg := legalCdeg v }
  | .phase3Cdeg => { p with phase3Cdeg := legalCdeg v }
  | .softStartMs => { p with softStartMs := clampu v 0 10000 }
  | .kickMult => { p with kickMult := clampu v 1 4 }
  | .kickHoldMs => { p with kickHoldMs := clampu v 0 15000 }
  | .kickRampMs => { p with kickRampMs := clampu v 0 15000 }
  | .redPct => { p with redPct := clampu v 50 100 }
  | .redDelayMs => { p with redDelayMs := clampu v 0 60000 }
  | .filter => { p with filterKind := legalKind v, firp := legalFirp v }
  | .alphaQ16 => { p with alphaQ16 := clampu v 655 64881 }

/-- R801 without CMD: TOTAL_RT stores (R805), configuration stores what is legal (R810, R811), and a
write to a read-only register is ignored (R802). -/
def writeReg (r : Reg) (v : Word) (s : State) : State :=
  match r with
  | .totalRt => { s with totalRt := v }
  | .globalCfg g => { s with cfg := writeGlobal g v s.cfg }
  | .profile k f => { s with profiles := s.profiles.set k (writeProfile f v (s.profiles.get k)) }
  | .id => s
  | .cmd => s
  | .status => s
  | .curFreq => s
  | .curPitch => s
  | .curAmp => s
  | .relay => s
  | .sessionRt => s
  | .errStatus => s
  | .errDisplayMs => s
  | .timeMs => s
  | .masterPhase => s
  | .bufState => s
  | .stateEpoch => s
  | .pwmOutA => s
  | .pwmOutB => s
  | .tickCount => s
  | .latch _ => s
  | .dds _ _ => s
  | .iirY _ => s
  | .firPtr => s
  | .firHist _ _ => s
  | .smMisc => s
  | .pitchRaw => s
  | .buf _ _ _ => s

end Sys2Proof.Machine
end

