-- ==== Sys2Proof/Machine/Agents.lean ====
section
/-!
DEFINITION. The agents' steps (spec/00_scope.md R6): the HOST's bus transactions
(spec/44_register_access.md R800, R801) with the execution of a command word
(spec/42_motor_commands.md R600), CLK and WDT (spec/60_exceptions.md R920, R931), and the one function
that runs a scheduled step of any agent.
-/

namespace Sys2Proof.Machine

open Sys2Proof

/-! ## HOST -/

/-- R600, R804: execute a word written to CMD. A reserved opcode raises CMDERR (R304, R624). -/
def execWord (w : Word) (s : State) : Result :=
  match decode w with
  | .ok i => exec i s
  | .error _ => .next (raise .cmderr s)

/-- R800: the register a legal read reaches. -/
def readTarget (off n : Nat) : Option Reg := if legalAccess off n then regAt off else none

/-- R800: a bus read: the value the HOST gets and the state after it. -/
def memRead (off n : Nat) (s : State) : Word × State :=
  match readTarget off n with
  | some r => (readReg r s, s)
  | none => (0, raise .buserr s)

/-- R800: HOST's read step; the value is kept where the HOST finds it (log entry 4). -/
def hostRead (off n : Nat) (s : State) : State :=
  let r := memRead off n s
  { r.2 with busData := r.1 }

/-- R801: HOST's write step. -/
def memWrite (off n : Nat) (v : Word) (s : State) : Result :=
  match readTarget off n with
  | some .cmd => execWord v s
  | some r => .next (writeReg r v s)
  | none => .next (raise .buserr s)

/-! ## CLK and WDT -/

/-- R920: CLK. -/
def clk (s : State) : State := { s with timeMs := s.timeMs + 1 }

/-- R931: WDT_RESET. -/
def wdtReset (s : State) : State := blockReset s

/-! ## Any agent -/

/-- R6, R310: run one step of an agent. A step that is not enabled is no step (log entry 3). -/
def agentStep (a : AgentStep) (s : State) : Result :=
  match a with
  | .hostRead off n => .next (hostRead off n s)
  | .hostWrite off n v => memWrite off n v s
  | .refill =>
    if refillEnabled s then .next (refill Config.lutBits Config.firCoeff s) else .fault .refillNotEnabled
  | .tick => if tickEnabled s then .next (tick s) else .fault .tickNotEnabled
  | .isr h => if isrEnabled h s then .next (isr h s) else .fault (.isrNotEnabled h)
  | .clk => .next (clk s)

/-- Whether an agent has the step (R430, R440, R445, R920; the HOST always may). -/
def agentEnabled (a : AgentStep) (s : State) : Bool :=
  match a with
  | .hostRead _ _ => true
  | .hostWrite _ _ _ => true
  | .refill => refillEnabled s
  | .tick => tickEnabled s
  | .isr h => isrEnabled h s
  | .clk => true

/-- R6: where nothing is scheduled, any enabled step may be next: the free choice where it is enabled,
and otherwise CLK, which always is (log entry 2). -/
def freeChoice (s : State) : AgentStep :=
  if agentEnabled (Config.freeStep s.choices) s then Config.freeStep s.choices else .clk

end Sys2Proof.Machine
end

