-- ==== Sys2Proof/Machine/Step.lean ====
section
/-!
DEFINITION. One step of the block: one atomic step of one agent (spec/20_memory.md R207, R220). A due
watchdog reset is the only enabled step (spec/60_exceptions.md R931); else the next scheduled step runs;
else a freely chosen one (log entries 1 and 2).
-/

namespace Sys2Proof.Machine

open Sys2Proof

/-- The step of the whole block. -/
def step (s : State) : Host.Outcome State Fault Refusal :=
  if wdtDue s then .next (wdtReset s)
  else
    match s.schedule with
    | a :: rest => agentStep a { s with schedule := rest }
    | [] => agentStep (freeChoice s) { s with choices := s.choices + 1 }

/-- `s` with one command write at the head of the schedule: the machine fetches no program (R191), a
command reaches it as the HOST's write of its word to CMD (R600, log entries 1 and 17). -/
def State.withFetchWord (s : State) (nbits w : Nat) : State :=
  { s with schedule := .hostWrite 0x004 4 (BitVec.ofNat 32 (w % 2 ^ nbits)) :: s.schedule }

end Sys2Proof.Machine
end

