-- ==== Sys2Proof/Safety.lean ====
section
/-!
DEFINITION. What counts as a safe run, in the terms claims use: the block's contract
(spec/60_exceptions.md R905), the invariants of the state (spec/00_scope.md R13, R14, spec/20_memory.md
R228, spec/43_motor_update.md R701), and the outcomes of the shared sub-steps that the claims about
commands name (spec/43_motor_update.md R751 to R753, R760).
-/

namespace Sys2Proof.Machine

open Sys2Proof

/-! ## Frames -/

/-- Every byte of buffer memory reads the same in both states. -/
def SameMemory (s t : State) : Prop := ∀ a, t.mem.readByte a = s.mem.readByte a

/-- R916: nothing of the engine's state differs: the phase, the halves' bookkeeping, the outputs, the
filters, the active selection and every byte of buffer memory. -/
def SameEngine (s t : State) : Prop :=
  t.masterPhase = s.masterPhase ∧ t.bufs = s.bufs ∧ t.pwmOutA = s.pwmOutA ∧ t.pwmOutB = s.pwmOutB
    ∧ t.tickCount = s.tickCount ∧ t.filters = s.filters ∧ t.status.activeSel = s.status.activeSel
    ∧ t.status.started = s.status.started ∧ t.status.underrun = s.status.underrun ∧ SameMemory s t

/-! ## The contract (R905) -/

/-- R905: a run in which UNDERRUN becomes 1 is outside the block's contract. -/
def ContractKept (s : State) : Prop := s.status.underrun = false

/-! ## The buffer protocol (R228) -/

/-- Who holds half `h`: SYN's free signal, the ready mark, a pending completion, or the consumer. -/
def halfHolders (s : State) (h : Half) : Nat :=
  (s.bufs.free.get h).toNat + (s.bufs.ready.get h).toNat + (s.bufs.irq.get h).toNat
    + (s.status.started && decide (s.bufs.playHalf = h)).toNat

/-- While the contract is kept, each half has exactly one holder. -/
def BufferProtocol (s : State) : Prop := ContractKept s → ∀ h, halfHolders s h = 1

/-! ## Ranges (R13, R14) -/

/-- R160, R810: every global configuration register holds a legal value. -/
def LegalConfig (c : GlobalConfig) : Prop :=
  (1 ≤ c.phaseMode.toNat ∧ c.phaseMode.toNat ≤ 4) ∧ c.maxAmpPct.toNat ≤ 100 ∧ c.fdaPct.toNat ≤ 100
    ∧ (1000 ≤ c.swRampMs.toNat ∧ c.swRampMs.toNat ≤ 5000) ∧ c.brakeMs.toNat ≤ 60000
    ∧ (1 ≤ c.pulseGapMs.toNat ∧ c.pulseGapMs.toNat ≤ 60000) ∧ c.brakeStartMhz.toNat ≤ 3000000
    ∧ c.brakeStopMhz.toNat ≤ 3000000 ∧ c.powerOnDelayMs.toNat ≤ 60000 ∧ c.autoStandbyMin.toNat ≤ 1440
    ∧ c.pitchRange ∈ ([10, 20, 30, 40, 50] : List Word) ∧ c.errDispMs.toNat ≤ 60000

/-- R170, R811: every register of a speed profile holds a legal value. -/
def LegalProfile (p : SpeedProfile) : Prop :=
  (10000 ≤ p.nominalMhz.toNat ∧ p.nominalMhz.toNat ≤ 3000000)
    ∧ (10000 ≤ p.minMhz.toNat ∧ p.minMhz.toNat ≤ 3000000)
    ∧ (10000 ≤ p.maxMhz.toNat ∧ p.maxMhz.toNat ≤ 3000000)
    ∧ p.phase0Cdeg.toNat ≤ 35999 ∧ p.phase1Cdeg.toNat ≤ 35999 ∧ p.phase2Cdeg.toNat ≤ 35999
    ∧ p.phase3Cdeg.toNat ≤ 35999 ∧ p.softStartMs.toNat ≤ 10000
    ∧ (1 ≤ p.kickMult.toNat ∧ p.kickMult.toNat ≤ 4) ∧ p.kickHoldMs.toNat ≤ 15000
    ∧ p.kickRampMs.toNat ≤ 15000 ∧ (50 ≤ p.redPct.toNat ∧ p.redPct.toNat ≤ 100)
    ∧ p.redDelayMs.toNat ≤ 60000 ∧ (655 ≤ p.alphaQ16.toNat ∧ p.alphaQ16.toNat ≤ 64881)

/-- Every configuration register is legal. -/
def ConfigLegal (s : State) : Prop := LegalConfig s.cfg ∧ ∀ k, LegalProfile (s.profiles.get k)

/-- R13, R106, R118, R140: every stored amplitude is in 0 to 32 768. -/
def AmplitudesInRange (s : State) : Prop :=
  s.curAmp.toNat ≤ 32768 ∧ s.ddsA.amp.toNat ≤ 32768 ∧ s.ddsB.amp.toNat ≤ 32768
    ∧ s.latches.stAmp.toNat ≤ 32768 ∧ s.latches.stopA0.toNat ≤ 32768 ∧ s.latches.stopTamp.toNat ≤ 32768

/-- R13, R410: every stored frequency is in −12 000 000 to 12 000 000 mHz, and every latched target in
0 to 3 000 000. -/
def FrequenciesInRange (s : State) : Prop :=
  (s32 s.curFreq).natAbs ≤ 12000000 ∧ (s32 s.latches.stopF0).natAbs ≤ 12000000
    ∧ (s32 s.latches.swFrom).natAbs ≤ 12000000 ∧ s.latches.stTgt.toNat ≤ 3000000
    ∧ s.latches.stopTgt.toNat ≤ 3000000 ∧ s.latches.swTo.toNat ≤ 3000000
    ∧ (s32 s.ddsA.baseFreq).natAbs ≤ 12000000 ∧ (s32 s.ddsB.baseFreq).natAbs ≤ 12000000

/-- R118 to R120, R140, R111 with R160 and R902: the remaining stored values with a range below their
width. -/
def CountsInRange (s : State) : Prop :=
  (s32 s.pitchRaw).natAbs ≤ 5000 ∧ s.latches.rtAcc.toNat ≤ 999 ∧ s.misc.relayN.toNat ≤ 4
    ∧ s.ddsA.pm.toNat ≤ 4 ∧ s.ddsB.pm.toNat ≤ 4 ∧ s.errDisplayMs.toNat ≤ 60000

/-- R13, R140, R142, R410: a block's smoothing factor is legal, or 0 as at reset, and its phase increment is
one a frequency in range has. -/
def BlockStepsInRange (b : DdsBlock) : Prop :=
  (b.alpha = 0 ∨ (655 ≤ b.alpha.toNat ∧ b.alpha.toNat ≤ 64881)) ∧ (s32 b.phaseInc).natAbs ≤ 1030792151

/-- R14: every stored value with a range stays inside it. -/
def ValuesInRange (s : State) : Prop :=
  ConfigLegal s ∧ AmplitudesInRange s ∧ FrequenciesInRange s ∧ CountsInRange s
    ∧ BlockStepsInRange s.ddsA ∧ BlockStepsInRange s.ddsB

/-- R147, R512: every IIR history within ±511·65536 and every FIR slot within ±511. -/
def FiltersInRange (s : State) : Prop :=
  ∀ c : Fin 4, (s32 s.filters[c].iirY).natAbs ≤ 511 * 65536
    ∧ ∀ k : Fin 8, (s32 s.filters[c].firHist[k]).natAbs ≤ 511

/-! ## Buffer memory (R150) -/

/-- R150: in every buffer word, every bit outside [9:0] and [25:16] is 0. -/
def BufferLayout (s : State) : Prop :=
  ∀ sl h j, j < Config.bufTicks → bufWord s sl h j &&& 0xFC00FC00#32 = 0

/-- R116: both output words have the layout of a buffer word. -/
def OutputLayout (s : State) : Prop := s.pwmOutA &&& 0xFC00FC00#32 = 0 ∧ s.pwmOutB &&& 0xFC00FC00#32 = 0

/-! ## Before INIT (R1011) -/

/-- R1011: before INIT the motor rests in Standby, the watchdog is not armed, the consumer has not
started, and the mute relays are inactive in the grace period. -/
def BeforeInitAtRest (s : State) : Prop :=
  s.status.sysinit = false →
    s.status.motor = .standby ∧ s.status.wdtArmed = false ∧ s.status.started = false
      ∧ s.misc.graceDone = false ∧ s.misc.relayN = 0

/-! ## What the next step is (R6, R931) -/

/-- R931: the condition under which the watchdog's reset is the only enabled step. -/
def ResetDue (s : State) : Prop := s.status.wdtArmed = true ∧ 2000 ≤ (s.timeMs - s.latches.wdtFeed).toNat

/-- The agent's step that is next where no reset is due: the schedule's head, else the free choice (log
entries 1 and 2). -/
def nextAgentStep (s : State) : AgentStep := s.schedule.head?.getD (freeChoice s)

/-! ## The watchdog (R701, R930, R931) -/

/-- After INIT the watchdog is armed and was fed when the last UPDATE (or INIT) ran, and never more
than 2000 ms pass without a feed. -/
def WatchdogKept (s : State) : Prop :=
  (s.status.sysinit = true → s.status.wdtArmed = true ∧ s.latches.lastUpdate = s.latches.wdtFeed)
    ∧ (s.status.wdtArmed = true → s.elapsed s.latches.wdtFeed ≤ Config.wdtTimeoutMs)

/-! ## Outcomes of shared sub-steps -/

/-- R760 `desired`: whether the mute relays are to be engaged. -/
def MuteRelaysDesired (t : State) : Prop :=
  t.misc.graceDone = true ∧ t.status.critMute = false
    ∧ (t.cfg.linkStartstop = true →
        t.status.motor = .starting ∨ t.status.motor = .running ∨ t.status.motor = .stopping)
    ∧ (t.cfg.linkStandby = true → t.status.motor ≠ .standby)

/-- R760, the relay evaluation as the last sub-step of a command from `s` to `t`: what is desired is
read from the new state, the earlier evaluation from the old one. -/
def RelayEvaluated (s t : State) : Prop :=
  (t.misc.relayPrev = true ↔ MuteRelaysDesired t)
    ∧ (¬MuteRelaysDesired t → t.misc.relayN = 0 ∧ t.latches.stairEpoch = s.latches.stairEpoch)
    ∧ (MuteRelaysDesired t → s.misc.relayPrev = false →
        t.latches.stairEpoch = t.timeMs ∧ t.misc.relayN = BitVec.ofNat 3 (min t.cfg.phaseMode.toNat 1))
    ∧ (MuteRelaysDesired t → s.misc.relayPrev = true →
        t.latches.stairEpoch = s.latches.stairEpoch
          ∧ t.misc.relayN = BitVec.ofNat 3 (min t.cfg.phaseMode.toNat
              (max s.misc.relayN.toNat (1 + (t.timeMs - s.latches.stairEpoch).toNat / 100))))

/-- R751 to R753, with R701, R702, R760: what UPDATE from `s` to `t` leaves for the drive `f`, `a`, `en`,
and that it changes nothing but the fields restored in the last clause but one. -/
def UpdateLeaves (s t : State) (f a : Int) (en : Bool) : Prop :=
  let P := s.profiles.get (if t.status.motor = .starting then s.misc.stSpeed else s.status.speedIdx)
  t.curFreq = u32 f ∧ t.curAmp = BitVec.ofInt 16 a ∧ t.curEn = en
    ∧ t.pendingBlock =
        { baseFreq := u32 f, phaseInc := phaseInc f, off1 := phaseOff P.phase1Cdeg
          off2 := phaseOff P.phase2Cdeg, off3 := phaseOff P.phase3Cdeg, amp := BitVec.ofInt 16 a, en := en
          kind := P.filterKind, firp := P.firp, pm := s.cfg.phaseMode.setWidth 3
          alpha := P.alphaQ16.setWidth 16 }
    ∧ t.status.pub = (s.status.pub || decide (t.pendingBlock ≠ s.pendingBlock))
    ∧ t.activeBlock = s.activeBlock
    ∧ t.latches.lastUpdate = s.timeMs ∧ t.latches.wdtFeed = s.timeMs
    ∧ t.misc.graceDone = (s.misc.graceDone || decide (s.cfg.powerOnDelayMs.toNat ≤ s.timeMs.toNat))
    ∧ RelayEvaluated s t
    ∧ { t with
        curFreq := s.curFreq, curAmp := s.curAmp, curEn := s.curEn, ddsA := s.ddsA, ddsB := s.ddsB
        sessionRt := s.sessionRt, totalRt := s.totalRt, stateEpoch := s.stateEpoch
        status := { t.status with
          motor := s.status.motor, pub := s.status.pub, swActive := s.status.swActive
          ampReduced := s.status.ampReduced }
        latches := { t.latches with
          lastUpdate := s.latches.lastUpdate, wdtFeed := s.latches.wdtFeed
          stairEpoch := s.latches.stairEpoch, redEpoch := s.latches.redEpoch, rtAcc := s.latches.rtAcc }
        misc := { t.misc with
          graceDone := s.misc.graceDone, relayPrev := s.misc.relayPrev, relayN := s.misc.relayN } } = s
    ∧ SameMemory s t

/-- R703 with nothing counted: an UPDATE that did not enter in Running leaves the runtime alone. -/
def SameRuntime (s t : State) : Prop :=
  t.sessionRt = s.sessionRt ∧ t.totalRt = s.totalRt ∧ t.latches.rtAcc = s.latches.rtAcc

/-- R619, D27, the speed change to `n` as a command from `s` to `t` leaves it, R760 after it, and that nothing
else changes. In Running with SMOOTH_SW = 1 a ramp begins. Any other change snaps: no ramp is active
after it (that SW_ACTIVE is cleared at once is the model's deduction, log entry 22), and in Running an
UPDATE that comes next, at whatever time, drives the new target frequency. The current speed changes
nothing. -/
def SpeedChanged (s t : State) (n : Speed) : Prop :=
  t.status.speedIdx = n
    ∧ (n ≠ s.status.speedIdx ∧ s.status.motor = .running ∧ s.cfg.smoothSw = true →
        t.status.swActive = true ∧ t.latches.swFrom = s.curFreq
          ∧ t.latches.swTo = u32 (targetFreq s n) ∧ t.latches.swEpoch = s.timeMs)
    ∧ (n ≠ s.status.speedIdx ∧ ¬(s.status.motor = .running ∧ s.cfg.smoothSw = true) →
        t.status.swActive = false)
    ∧ (n ≠ s.status.speedIdx ∧ s.status.motor = .running ∧ s.cfg.smoothSw = false →
        ∀ now, ∃ u, exec .update { t with timeMs := now } = .next u ∧ u.curFreq = u32 (targetFreq s n))
    ∧ (n = s.status.speedIdx → t.status.swActive = s.status.swActive)
    ∧ (¬(n ≠ s.status.speedIdx ∧ s.status.motor = .running ∧ s.cfg.smoothSw = true) →
        t.latches.swFrom = s.latches.swFrom ∧ t.latches.swTo = s.latches.swTo
          ∧ t.latches.swEpoch = s.latches.swEpoch)
    ∧ RelayEvaluated s t
    ∧ { t with
        status := { t.status with speedIdx := s.status.speedIdx, swActive := s.status.swActive }
        latches := { t.latches with
          swFrom := s.latches.swFrom, swTo := s.latches.swTo, swEpoch := s.latches.swEpoch
          stairEpoch := s.latches.stairEpoch }
        misc := { t.misc with relayPrev := s.misc.relayPrev, relayN := s.misc.relayN } } = s
    ∧ SameMemory s t

/-- R606: what Starting entry from `s` leaves in `t`. -/
def StartingEntered (s t : State) : Prop :=
  t.status.motor = .starting ∧ t.stateEpoch = s.timeMs ∧ t.misc.stSpeed = t.status.speedIdx
    ∧ t.latches.stTgt = u32 (targetFreq t t.status.speedIdx) ∧ t.latches.stAmp = u32 (targetAmp t)
    ∧ t.sessionRt = 0 ∧ t.latches.rtAcc = 0 ∧ t.status.ampReduced = false ∧ t.status.swActive = false

/-! ## Register access -/

/-- R801 then R800: writing `v` at `off` and reading `off` gives `r`, the read changing nothing. -/
def ReadsBack (s : State) (off : Nat) (v r : Word) : Prop :=
  ∃ t, memWrite off 4 v s = .next t ∧ memRead off 4 t = (r, t)

/-- R140, R141: the eight words of block `b` read from offset `base`. -/
def blockMap (base : Nat) (b : DdsBlock) : List (Nat × Word) :=
  [(base, b.baseFreq), (base + 0x04, b.phaseInc), (base + 0x08, 0), (base + 0x0C, b.off1),
   (base + 0x10, b.off2), (base + 0x14, b.off3),
   (base + 0x18, BitVec.ofNat 32 (b.amp.toNat + 2 ^ 16 * b.en.toNat
      + 2 ^ 17 * (match b.kind with | .none => 0 | .iir => 1 | .fir => 2)
      + 2 ^ 19 * (match b.firp with | .gentle => 0 | .medium => 1 | .aggressive => 2)
      + 2 ^ 21 * b.pm.toNat)),
   (base + 0x1C, b.alpha.setWidth 32)]

/-- R170: the registers of profile `p` read from offset `base`. -/
def profileMap (base : Nat) (p : SpeedProfile) : List (Nat × Word) :=
  [(base, p.nominalMhz), (base + 0x04, p.minMhz), (base + 0x08, p.maxMhz), (base + 0x0C, p.phase0Cdeg),
   (base + 0x10, p.phase1Cdeg), (base + 0x14, p.phase2Cdeg), (base + 0x18, p.phase3Cdeg),
   (base + 0x1C, p.softStartMs), (base + 0x20, p.kickMult), (base + 0x24, p.kickHoldMs),
   (base + 0x28, p.kickRampMs), (base + 0x2C, p.redPct), (base + 0x30, p.redDelayMs),
   (base + 0x34, BitVec.ofNat 32 ((match p.filterKind with | .none => 0 | .iir => 1 | .fir => 2)
      + 2 ^ 4 * (match p.firp with | .gentle => 0 | .medium => 1 | .aggressive => 2))),
   (base + 0x38, p.alphaQ16)]

/-- The index a stored speed stands for. -/
def speedIndex : Speed → Nat
  | .rpm33 => 0
  | .rpm45 => 1
  | .rpm78 => 2

/-- R101 to R120: what the registers of the block's state read at their
offsets, but STATUS (0x008), CUR_PITCH (0x010) and RELAY (0x018), which have statements of their own. -/
def statusMap (s : State) : List (Nat × Word) :=
  [(0x000, 0x54544331), (0x004, 0), (0x00C, s.curFreq),
   (0x014, BitVec.ofNat 32 (s.curAmp.toNat + 2 ^ 16 * s.curEn.toNat)), (0x01C, s.sessionRt),
   (0x020, s.totalRt),
   (0x024, BitVec.ofNat 32 ((match s.errStatus.kind with
        | .systemFreeze => 0 | .motorStall => 1 | .settingsCorrupt => 2 | .i2cFailure => 3
        | .outOfMemory => 4)
      + 2 ^ 3 * s.errStatus.crit.toNat + 2 ^ 4 * s.errStatus.valid.toNat)),
   (0x028, s.errDisplayMs), (0x02C, s.timeMs), (0x030, s.masterPhase),
   (0x034, BitVec.ofNat 32 (s.bufs.ready.h0.toNat + 2 * s.bufs.ready.h1.toNat
      + 2 ^ 2 * s.bufs.free.h0.toNat + 2 ^ 3 * s.bufs.free.h1.toNat + 2 ^ 4 * s.bufs.irq.h0.toNat
      + 2 ^ 5 * s.bufs.irq.h1.toNat + 2 ^ 6 * (match s.bufs.playHalf with | .h0 => 0 | .h1 => 1)
      + 2 ^ 7 * (match s.bufs.nextFill with | .h0 => 0 | .h1 => 1) + 2 ^ 8 * s.bufs.tickPos.val)),
   (0x038, s.stateEpoch), (0x03C, s.pwmOutA), (0x040, s.pwmOutB), (0x044, s.tickCount),
   (0x048, s.latches.stTgt), (0x04C, s.latches.stAmp), (0x050, s.latches.stopA0),
   (0x054, s.latches.stopF0), (0x058, s.latches.stopTgt), (0x05C, s.latches.stopTamp),
   (0x060, s.latches.swFrom), (0x064, s.latches.swTo), (0x068, s.latches.swEpoch),
   (0x06C, s.latches.redEpoch), (0x070, s.latches.stairEpoch), (0x074, s.latches.wdtFeed),
   (0x078, s.latches.lastUpdate), (0x07C, s.latches.rtAcc),
   (0x1A0, BitVec.ofNat 32 (speedIndex s.misc.stSpeed + 2 ^ 2 * s.misc.relayPrev.toNat
      + 2 ^ 3 * s.misc.graceDone.toNat + 2 ^ 4 * s.misc.relayN.toNat)),
   (0x1A4, s.pitchRaw)]

/-- R140, R141, R145, R146: what the blocks, their views, and the filters' histories and indices read. -/
def engineMap (s : State) : List (Nat × Word) :=
  blockMap 0x080 s.ddsA ++ blockMap 0x0A0 s.ddsB
    ++ blockMap 0x0C0 (if s.status.activeSel = true then s.ddsB else s.ddsA)
    ++ blockMap 0x0E0 (if s.status.activeSel = true then s.ddsA else s.ddsB)
    ++ [(0x100, s.filters[0].iirY), (0x104, s.filters[1].iirY), (0x108, s.filters[2].iirY),
        (0x10C, s.filters[3].iirY),
        (0x110, BitVec.ofNat 32 (s.filters[0].firPtr.val + 2 ^ 4 * s.filters[1].firPtr.val
          + 2 ^ 8 * s.filters[2].firPtr.val + 2 ^ 12 * s.filters[3].firPtr.val))]

/-- R160, R170: what the configuration registers read. -/
def configMap (s : State) : List (Nat × Word) :=
  [(0x200, s.cfg.phaseMode), (0x204, s.cfg.maxAmpPct),
   (0x208, match s.cfg.rampType with | .linear => 0 | .sCurve => 1), (0x20C, s.cfg.fdaPct),
   (0x210, BitVec.ofNat 32 s.cfg.smoothSw.toNat), (0x214, s.cfg.swRampMs),
   (0x218, match s.cfg.brakeMode with | .off => 0 | .pulse => 1 | .ramp => 2), (0x21C, s.cfg.brakeMs),
   (0x220, s.cfg.pulseGapMs), (0x224, s.cfg.brakeStartMhz), (0x228, s.cfg.brakeStopMhz),
   (0x22C, BitVec.ofNat 32 (s.cfg.activeHigh.toNat + 2 * s.cfg.linkStandby.toNat
      + 2 ^ 2 * s.cfg.linkStartstop.toNat)),
   (0x230, s.cfg.powerOnDelayMs), (0x234, s.cfg.autoStandbyMin),
   (0x238, BitVec.ofNat 32 ((match s.cfg.bootSpeed with | .fixed k => speedIndex k | .lastUsed => 3)
      + 2 ^ 2 * s.cfg.en78.toNat + 2 ^ 3 * s.cfg.autoBoot.toNat + 2 ^ 4 * s.cfg.autoStart.toNat
      + 2 ^ 8 * speedIndex s.cfg.lastSpeed)),
   (0x23C, s.cfg.pitchRange), (0x240, s.cfg.errDispMs)]
    ++ profileMap 0x300 s.profiles.sp33 ++ profileMap 0x340 s.profiles.sp45
    ++ profileMap 0x380 s.profiles.sp78

/-- R180: the reserved offsets of the register space. -/
def reservedOffset (off : Nat) : Prop :=
  (0x114 ≤ off ∧ off ≤ 0x11F) ∨ (0x1A8 ≤ off ∧ off ≤ 0x1FF) ∨ (0x244 ≤ off ∧ off ≤ 0x2FF)
    ∨ (0x33C ≤ off ∧ off ≤ 0x33F) ∨ (0x37C ≤ off ∧ off ≤ 0x37F) ∨ (0x3BC ≤ off ∧ off ≤ 0xFFF)
    ∨ 0x2000 ≤ off

/-- R1004: the registers that read other than 0 right after reset, with their values. -/
def resetReadback : List (Nat × Word) :=
  [(0x000, 0x54544331), (0x034, 0xC), (0x200, 4), (0x204, 100), (0x208, 1), (0x214, 3000),
   (0x21C, 2000), (0x220, 500), (0x224, 50000), (0x228, 10000), (0x22C, 3), (0x238, 7), (0x23C, 10),
   (0x240, 3000),
   (0x300, 50000), (0x304, 25000), (0x308, 75000), (0x310, 9000), (0x314, 18000), (0x318, 27000),
   (0x31C, 1000), (0x320, 1), (0x324, 1000), (0x328, 2000), (0x32C, 100), (0x330, 30000),
   (0x334, 0x10), (0x338, 32768),
   (0x340, 67500), (0x344, 33750), (0x348, 101250), (0x350, 9000), (0x354, 18000), (0x358, 27000),
   (0x35C, 1000), (0x360, 1), (0x364, 1000), (0x368, 2000), (0x36C, 100), (0x370, 30000),
   (0x374, 0x10), (0x378, 32768),
   (0x380, 117000), (0x384, 58500), (0x388, 175500), (0x390, 9000), (0x394, 18000), (0x398, 27000),
   (0x39C, 1000), (0x3A0, 1), (0x3A4, 1000), (0x3A8, 2000), (0x3AC, 100), (0x3B0, 30000),
   (0x3B4, 0x10), (0x3B8, 32768)]

end Sys2Proof.Machine
end

