-- ==== Sys2Proof/Certificates/Slice0/Obligations.lean ====
section
/-!
DEFINITION. The statements for the provers, from the numbered rules of spec/. A statement about a
command or an agent's step names every field that may differ and says of all others, by restoring
those, that they are as before; each also says it of every byte of buffer memory.
-/

open Sys2Proof Sys2Proof.Machine

/-! ## Reset, decoding and the step -/

/-- R1004: right after reset every mapped register reads its reset value, and every register the
table does not list reads 0. -/
def Obligations.ResetReadsItsRegisters : Prop :=
  ∀ off, off % 4 = 0 → off ≤ 0x1FFF → ¬reservedOffset off →
    memRead off 4 State.reset = ((resetReadback.lookup off).getD 0, State.reset)

/-- Every word of 95_test_vectors.md 2.1 decodes as that table says (R303, R311), its two reserved opcodes to
none, and so does a SET_SPEED with unnamed operand bits set (R302). -/
def Obligations.WrittenWordsDecode : Prop :=
  decode 0x00000000 = .ok .nop ∧ decode 0x01000000 = .ok .init ∧ decode 0x02000000 = .ok .update
    ∧ decode 0x03000000 = .ok .start ∧ decode 0x04000000 = .ok .stop
    ∧ decode 0x05000000 = .ok .toggleStandby ∧ decode 0x06000000 = .ok .wake
    ∧ decode 0x07000000 = .ok .cycleSpeed ∧ decode 0x08000001 = .ok (.setSpeed 1)
    ∧ decode 0x08000003 = .ok (.setSpeed 3) ∧ decode 0x08FFFFF1 = .ok (.setSpeed 1)
    ∧ decode 0x0900FF06 = .ok (.setPitch (-250)) ∧ decode 0x09001388 = .ok (.setPitch 5000)
    ∧ decode 0x0A000000 = .ok .resetPitch ∧ decode 0x0B000002 = .ok (.reportError 2 false)
    ∧ decode 0x0B000009 = .ok (.reportError 1 true) ∧ decode 0x0B000005 = .ok (.reportError 5 false)
    ∧ decode 0x0C000000 = .ok .loadDefaults
    ∧ decode 0x0D000000 = .error (.reservedOpcode 0x0D)
    ∧ decode 0xFF000000 = .error (.reservedOpcode 0xFF)

/-- R300, R301, R311: every well-formed command is what its word decodes to, with every operand at every
value its field admits. -/
def Obligations.CommandsDecodeFromTheirWords : Prop :=
  ∀ i : Instr, i.wellFormed = true → decode (encode i) = .ok i

/-- R306: a word selects one row of R303 or is reserved, and no word written to CMD faults, refuses or
halts the block. -/
def Obligations.EveryWordIsACommandOrReserved : Prop :=
  ∀ w : Word,
    (opcodeOf w ≤ 0x0C → ∃ i, decode w = .ok i ∧ i.wellFormed = true ∧ i.opcode = opcodeOf w)
      ∧ (0x0D ≤ opcodeOf w → decode w = .error (.reservedOpcode (opcodeOf w)))
      ∧ ∀ s, ∃ t, memWrite 0x004 4 w s = .next t

/-- R302: two words with the same OPCODE and the same named operand bits decode alike, and writing either to
CMD has the same effect in every state. -/
def Obligations.UnnamedOperandBitsAreIgnored : Prop :=
  ∀ w v : Word, opcodeOf w = opcodeOf v →
    (opcodeOf w = 0x08 → w.extractLsb' 0 2 = v.extractLsb' 0 2) →
    (opcodeOf w = 0x09 → w.extractLsb' 0 16 = v.extractLsb' 0 16) →
    (opcodeOf w = 0x0B → w.extractLsb' 0 4 = v.extractLsb' 0 4) →
    decode w = decode v ∧ ∀ s, memWrite 0x004 4 w s = memWrite 0x004 4 v s

/-- R624: a reserved opcode written to CMD sets CMDERR and has no other effect, with or without SYSINIT. -/
def Obligations.ReservedOpcodeOnlyRaisesCmderr : Prop :=
  ∀ (w : Word) (s : State), 0x0D ≤ opcodeOf w →
    memWrite 0x004 4 w s = .next { s with status.cmderr := true }

/-- The step runs the command the HOST's scheduled write carries, where the watchdog is not due: on the
state with that write taken off the schedule, and nothing else around it. `withFetchWord` puts such a
write in front (log entries 1 and 17: the schedule is the model's). -/
def Obligations.StepRunsTheScheduledCommand : Prop :=
  (∀ (s : State) (w : Word) (i : Instr) (rest : List AgentStep),
      ¬ResetDue s → s.schedule = .hostWrite 0x004 4 w :: rest → decode w = .ok i →
        step s = exec i { s with schedule := rest })
    ∧ ∀ (s : State) (i : Instr), ¬ResetDue s → i.wellFormed = true →
        step (s.withFetchWord 32 (encode i).toNat) = exec i s

/-- R6, R310, R430, R440, R445, R800, R801, R920: where no reset is due, the step is the scheduled agent's own
step, on the state with that line taken off the schedule (log entry 1). A HOST write is the bus write at
its offset, a HOST read the bus read with its value kept in the model's `busData` (log entry 4); the
other agents' steps have statements of their own. A HOST access or CLK always answers a next state;
REFILL does where SYSINIT = 1 and the next half is free, TICK where STARTED = 1, ISR where its half's
completion is pending, and each faults by its own name elsewhere (the fault is the model's, log entry
3). With nothing scheduled the machine always goes on, by the freely chosen agent's step (R6, R1012;
log entry 2). -/
def Obligations.StepGoesOnWhereEnabled : Prop :=
  (∀ s : State, s.schedule = [] → ∃ t, step s = .next t
      ∧ (¬ResetDue s → agentStep (freeChoice s) { s with choices := s.choices + 1 } = .next t))
    ∧ (∀ (s : State) (off n : Nat) (v : Word),
        agentStep (.hostWrite off n v) s = memWrite off n v s
          ∧ agentStep (.hostRead off n) s
            = .next { (memRead off n s).2 with busData := (memRead off n s).1 })
    ∧ ∀ (s : State) (a : AgentStep) (rest : List AgentStep), ¬ResetDue s → s.schedule = a :: rest →
        step s = agentStep a { s with schedule := rest } ∧
        match a with
        | .hostRead _ _ => ∃ t, step s = .next t
        | .hostWrite _ _ _ => ∃ t, step s = .next t
        | .clk => ∃ t, step s = .next t
        | .refill =>
          if s.status.sysinit = true ∧ s.bufs.free.get s.bufs.nextFill = true then ∃ t, step s = .next t
          else step s = .fault .refillNotEnabled
        | .tick => if s.status.started = true then ∃ t, step s = .next t else step s = .fault .tickNotEnabled
        | .isr h =>
          if s.bufs.irq.get h = true then ∃ t, step s = .next t else step s = .fault (.isrNotEnabled h)

/-! ## Commands -/

/-- R610: NOP leaves every register unchanged, before INIT too; any word with OPCODE 0x00 is it. -/
def Obligations.NopLeavesEveryRegisterUnchanged : Prop :=
  ∀ s : State, exec .nop s = .next s ∧ ∀ w : Word, opcodeOf w = 0x00 → memWrite 0x004 4 w s = .next s

/-- R600: while SYSINIT = 0 the commands 0x02 to 0x0A have no effect at all. -/
def Obligations.CommandsBeforeInitAreIgnored : Prop :=
  ∀ (i : Instr) (s : State), s.status.sysinit = false → 0x02 ≤ i.opcode → i.opcode ≤ 0x0A →
    exec i s = .next s

/-- R611, R605: INIT is one-shot. The first chooses the boot speed and state from BOOT_CFG, clears the pitch,
sets SYSINIT, arms and feeds the watchdog and evaluates the relays; a second has no effect. -/
def Obligations.InitCompletes : Prop :=
  ∀ s : State,
    (s.status.sysinit = true → exec .init s = .next s)
      ∧ (s.status.sysinit = false → ∃ t, exec .init s = .next t
        ∧ t.status.sysinit = true ∧ t.status.wdtArmed = true
        ∧ t.latches.wdtFeed = s.timeMs ∧ t.latches.lastUpdate = s.timeMs
        ∧ t.pitchRaw = 0
        ∧ (let k := if s.cfg.bootSpeed.code = 3 then s.cfg.lastSpeed.code else s.cfg.bootSpeed.code
           t.status.speedIdx.code = if k = 2 ∧ s.cfg.en78 = false then 0 else k)
        ∧ (s.cfg.autoBoot = false → t.status.motor = s.status.motor ∧ t.stateEpoch = s.stateEpoch)
        ∧ (s.cfg.autoBoot = true → t.stateEpoch = s.timeMs)
        ∧ (s.cfg.autoBoot = true → s.cfg.autoStart = false → t.status.motor = .stopped)
        ∧ (s.cfg.autoBoot = true → s.cfg.autoStart = true → StartingEntered s t)
        ∧ (s.cfg.autoBoot = false ∨ s.cfg.autoStart = false →
            t.misc.stSpeed = s.misc.stSpeed ∧ t.latches.stTgt = s.latches.stTgt
              ∧ t.latches.stAmp = s.latches.stAmp ∧ t.latches.rtAcc = s.latches.rtAcc
              ∧ t.sessionRt = s.sessionRt ∧ t.status.ampReduced = s.status.ampReduced
              ∧ t.status.swActive = s.status.swActive)
        ∧ RelayEvaluated s t
        ∧ { t with
            pitchRaw := s.pitchRaw, stateEpoch := s.stateEpoch, sessionRt := s.sessionRt
            status := { t.status with
              sysinit := s.status.sysinit, wdtArmed := s.status.wdtArmed, motor := s.status.motor
              speedIdx := s.status.speedIdx, ampReduced := s.status.ampReduced
              swActive := s.status.swActive }
            latches := { t.latches with
              wdtFeed := s.latches.wdtFeed, lastUpdate := s.latches.lastUpdate
              stTgt := s.latches.stTgt, stAmp := s.latches.stAmp, rtAcc := s.latches.rtAcc
              stairEpoch := s.latches.stairEpoch }
            misc := { t.misc with
              stSpeed := s.misc.stSpeed, relayPrev := s.misc.relayPrev, relayN := s.misc.relayN } } = s
        ∧ SameMemory s t)

/-- R613, R606: START clears CRIT_MUTE in every state; from Standby or Stopped it enters Starting with its
latches; in Starting, Running and Stopping it changes nothing else. -/
def Obligations.StartCompletes : Prop :=
  ∀ s : State, s.status.sysinit = true → ∃ t, exec .start s = .next t
    ∧ t.status.critMute = false
    ∧ (s.status.motor = .standby ∨ s.status.motor = .stopped → StartingEntered s t)
    ∧ (¬(s.status.motor = .standby ∨ s.status.motor = .stopped) →
        { t with
          status := { t.status with critMute := s.status.critMute }
          latches := { t.latches with stairEpoch := s.latches.stairEpoch }
          misc := { t.misc with relayPrev := s.misc.relayPrev, relayN := s.misc.relayN } } = s)
    ∧ RelayEvaluated s t
    ∧ { t with
        stateEpoch := s.stateEpoch, sessionRt := s.sessionRt
        status := { t.status with
          critMute := s.status.critMute, motor := s.status.motor, ampReduced := s.status.ampReduced
          swActive := s.status.swActive }
        latches := { t.latches with
          stTgt := s.latches.stTgt, stAmp := s.latches.stAmp, rtAcc := s.latches.rtAcc
          stairEpoch := s.latches.stairEpoch }
        misc := { t.misc with
          stSpeed := s.misc.stSpeed, relayPrev := s.misc.relayPrev, relayN := s.misc.relayN } } = s
    ∧ SameMemory s t

/-- R614: STOP in Starting or Running enters Stopping with the values of the most recent UPDATE and the
current targets; in the other states it is ignored without error. -/
def Obligations.StopCompletes : Prop :=
  ∀ s : State, s.status.sysinit = true → ∃ t, exec .stop s = .next t
    ∧ (s.status.motor = .starting ∨ s.status.motor = .running →
        t.status.motor = .stopping ∧ t.stateEpoch = s.timeMs ∧ t.status.swActive = false
          ∧ t.latches.stopA0 = s.curAmp.setWidth 32 ∧ t.latches.stopF0 = s.curFreq
          ∧ t.latches.stopTgt = u32 (targetFreq s s.status.speedIdx)
          ∧ t.latches.stopTamp = u32 (targetAmp s))
    ∧ (¬(s.status.motor = .starting ∨ s.status.motor = .running) →
        t.status = s.status ∧ t.stateEpoch = s.stateEpoch
          ∧ { t.latches with stairEpoch := s.latches.stairEpoch } = s.latches)
    ∧ RelayEvaluated s t
    ∧ { t with
        stateEpoch := s.stateEpoch
        status := { t.status with motor := s.status.motor, swActive := s.status.swActive }
        latches := { t.latches with
          stopA0 := s.latches.stopA0, stopF0 := s.latches.stopF0, stopTgt := s.latches.stopTgt
          stopTamp := s.latches.stopTamp, stairEpoch := s.latches.stairEpoch }
        misc := { t.misc with relayPrev := s.misc.relayPrev, relayN := s.misc.relayN } } = s
    ∧ SameMemory s t

/-- R615: TOGGLE_STANDBY clears CRIT_MUTE, leaves Standby for Stopped, and enters Standby from every other
state at once, ending a speed-switch ramp. -/
def Obligations.ToggleStandbyCompletes : Prop :=
  ∀ s : State, s.status.sysinit = true → ∃ t, exec .toggleStandby s = .next t
    ∧ t.status.critMute = false ∧ t.stateEpoch = s.timeMs
    ∧ (s.status.motor = .standby →
        t.status.motor = .stopped ∧ t.status.swActive = s.status.swActive)
    ∧ (s.status.motor ≠ .standby → t.status.motor = .standby ∧ t.status.swActive = false)
    ∧ RelayEvaluated s t
    ∧ { t with
        stateEpoch := s.stateEpoch
        status := { t.status with
          critMute := s.status.critMute, motor := s.status.motor, swActive := s.status.swActive }
        latches := { t.latches with stairEpoch := s.latches.stairEpoch }
        misc := { t.misc with relayPrev := s.misc.relayPrev, relayN := s.misc.relayN } } = s
    ∧ SameMemory s t

/-- R616: WAKE clears CRIT_MUTE and leaves Standby for Stopped; outside Standby it only clears CRIT_MUTE. -/
def Obligations.WakeCompletes : Prop :=
  ∀ s : State, s.status.sysinit = true → ∃ t, exec .wake s = .next t
    ∧ t.status.critMute = false
    ∧ (s.status.motor = .standby → t.status.motor = .stopped ∧ t.stateEpoch = s.timeMs)
    ∧ (s.status.motor ≠ .standby → t.status.motor = s.status.motor ∧ t.stateEpoch = s.stateEpoch)
    ∧ RelayEvaluated s t
    ∧ { t with
        stateEpoch := s.stateEpoch
        status := { t.status with critMute := s.status.critMute, motor := s.status.motor }
        latches := { t.latches with stairEpoch := s.latches.stairEpoch }
        misc := { t.misc with relayPrev := s.misc.relayPrev, relayN := s.misc.relayN } } = s
    ∧ SameMemory s t

/-- R617, R619, D27: CYCLE_SPEED goes 33, 45, 78, 33, and skips 78 while EN78 = 0. A change that begins no ramp
snaps at the next UPDATE; that it clears SW_ACTIVE at once is the model's deduction (log entry 22). -/
def Obligations.CycleSpeedCompletes : Prop :=
  ∀ s : State, s.status.sysinit = true → ∃ t, exec .cycleSpeed s = .next t
    ∧ (s.status.speedIdx = .rpm33 → SpeedChanged s t .rpm45)
    ∧ (s.status.speedIdx = .rpm45 → SpeedChanged s t (if s.cfg.en78 = true then .rpm78 else .rpm33))
    ∧ (s.status.speedIdx = .rpm78 → SpeedChanged s t .rpm33)

/-- R618, R619: SET_SPEED 0, 1, and 2 while 78 RPM is enabled, change the speed; SET_SPEED 3, and 2 while it
is disabled, raise CMDERR, and the relays are evaluated all the same. A change that begins no ramp snaps
at the next UPDATE (D27); that it clears SW_ACTIVE at once is the model's deduction (log entry 22). -/
def Obligations.SetSpeedCompletes : Prop :=
  ∀ s : State, s.status.sysinit = true →
    (∃ t, exec (.setSpeed 0) s = .next t ∧ SpeedChanged s t .rpm33)
      ∧ (∃ t, exec (.setSpeed 1) s = .next t ∧ SpeedChanged s t .rpm45)
      ∧ (s.cfg.en78 = true → ∃ t, exec (.setSpeed 2) s = .next t ∧ SpeedChanged s t .rpm78)
      ∧ ∀ n, n = 3 ∨ (n = 2 ∧ s.cfg.en78 = false) → ∃ t, exec (.setSpeed n) s = .next t
          ∧ t.status.cmderr = true ∧ RelayEvaluated s t
          ∧ { t with
              status := { t.status with cmderr := s.status.cmderr }
              latches := { t.latches with stairEpoch := s.latches.stairEpoch }
              misc := { t.misc with relayPrev := s.misc.relayPrev, relayN := s.misc.relayN } } = s
          ∧ SameMemory s t

/-- R620, R621: SET_PITCH stores the clamped pitch and RESET_PITCH stores 0; nothing else changes but what
the relay evaluation writes. -/
def Obligations.PitchCommandsComplete : Prop :=
  ∀ s : State, s.status.sysinit = true →
    (∀ v : Int, ∃ t, exec (.setPitch v) s = .next t ∧ s32 t.pitchRaw = min (max v (-5000)) 5000
        ∧ RelayEvaluated s t
        ∧ { t with
            pitchRaw := s.pitchRaw
            latches := { t.latches with stairEpoch := s.latches.stairEpoch }
            misc := { t.misc with relayPrev := s.misc.relayPrev, relayN := s.misc.relayN } } = s
        ∧ SameMemory s t)
      ∧ ∃ t, exec .resetPitch s = .next t ∧ t.pitchRaw = 0
        ∧ RelayEvaluated s t
        ∧ { t with
            pitchRaw := s.pitchRaw
            latches := { t.latches with stairEpoch := s.latches.stairEpoch }
            misc := { t.misc with relayPrev := s.misc.relayPrev, relayN := s.misc.relayN } } = s
        ∧ SameMemory s t

/-- R622, R902 to R904: an accepted report is recorded with its display time, a critical one mutes every
relay in the same step, SettingsCorrupt loads the defaults, and the motor state does not change. -/
def Obligations.ReportErrorRecords : Prop :=
  ∀ (s : State) (kind : Nat) (crit : Bool), kind ≤ 4 → ∃ t, exec (.reportError kind crit) s = .next t
    ∧ t.errStatus.kind.code = kind ∧ t.errStatus.crit = crit ∧ t.errStatus.valid = true
    ∧ t.errDisplayMs.toNat = (if crit = true then max s.cfg.errDispMs.toNat 10000 else s.cfg.errDispMs.toNat)
    ∧ t.status.hasCrit = (s.status.hasCrit || crit) ∧ t.status.critMute = (s.status.critMute || crit)
    ∧ (crit = true → t.misc.relayN = 0)
    ∧ (kind = 2 → t.cfg = GlobalConfig.default ∧ t.profiles = Profiles.default)
    ∧ (kind ≠ 2 → t.cfg = s.cfg ∧ t.profiles = s.profiles)
    ∧ RelayEvaluated s t
    ∧ { t with
        errStatus := s.errStatus, errDisplayMs := s.errDisplayMs, cfg := s.cfg, profiles := s.profiles
        status := { t.status with hasCrit := s.status.hasCrit, critMute := s.status.critMute }
        latches := { t.latches with stairEpoch := s.latches.stairEpoch }
        misc := { t.misc with relayPrev := s.misc.relayPrev, relayN := s.misc.relayN } } = s
    ∧ SameMemory s t

/-- R622, R907: REPORT_ERROR with a kind from 5 to 7 raises CMDERR and nothing else: nothing is recorded
and no relay is evaluated. -/
def Obligations.ReportErrorRejectsUnnamedKinds : Prop :=
  ∀ (s : State) (kind : Nat) (crit : Bool) (w : Word), 5 ≤ kind → kind ≤ 7 →
    w = encode (.reportError kind crit) → memWrite 0x004 4 w s = .next { s with status.cmderr := true }

/-- R623, R600: LOAD_DEFAULTS restores every configuration register, before INIT too, and nothing else
changes but what the relay evaluation writes. -/
def Obligations.LoadDefaultsCompletes : Prop :=
  ∀ s : State, ∃ t, exec .loadDefaults s = .next t
    ∧ t.cfg = GlobalConfig.default ∧ t.profiles = Profiles.default ∧ ConfigLegal t
    ∧ RelayEvaluated s t
    ∧ { t with
        cfg := s.cfg, profiles := s.profiles
        latches := { t.latches with stairEpoch := s.latches.stairEpoch }
        misc := { t.misc with relayPrev := s.misc.relayPrev, relayN := s.misc.relayN } } = s
    ∧ SameMemory s t

/-! ## UPDATE -/

/-- R700, R730, R731: UPDATE in Standby and Stopped disables the DDS at the target frequency; Stopped goes to
Standby when auto-standby is due. -/
def Obligations.UpdateAtRest : Prop :=
  ∀ s : State, s.status.sysinit = true → s.status.motor = .standby ∨ s.status.motor = .stopped →
    ∃ t, exec .update s = .next t
      ∧ UpdateLeaves s t (targetFreq s s.status.speedIdx) 0 false
      ∧ (s.status.motor = .stopped ∧ 0 < s.cfg.autoStandbyMin.toNat
            ∧ s.cfg.autoStandbyMin.toNat * 60000 ≤ (s.timeMs - s.stateEpoch).toNat →
          t.status.motor = .standby ∧ t.stateEpoch = s.timeMs)
      ∧ (¬(s.status.motor = .stopped ∧ 0 < s.cfg.autoStandbyMin.toNat
            ∧ s.cfg.autoStandbyMin.toNat * 60000 ≤ (s.timeMs - s.stateEpoch).toNat) →
          t.status.motor = s.status.motor ∧ t.stateEpoch = s.stateEpoch)
      ∧ t.status.swActive = s.status.swActive ∧ t.status.ampReduced = s.status.ampReduced
      ∧ t.latches.redEpoch = s.latches.redEpoch ∧ SameRuntime s t

/-- R700, R732 to R734: UPDATE in Starting drives the kick and the soft start from the latched targets with
the profile latched at START, and enters Running once both are complete. -/
def Obligations.UpdateWhileStarting : Prop :=
  ∀ s : State, s.status.sysinit = true → s.status.motor = .starting →
    let P := s.profiles.get s.misc.stSpeed
    let t0 : Int := ((s.timeMs - s.stateEpoch).toNat : Int)
    let km : Int := P.kickMult.toNat
    let H : Int := P.kickHoldMs.toNat
    let R : Int := P.kickRampMs.toNat
    let tgt : Int := s32 s.latches.stTgt
    let f : Int :=
      if 1 < km ∧ t0 < H then tgt * km
      else if 1 < km ∧ t0 < H + R then tgt * km + (tgt - tgt * km) * (t0 - H) / R
      else tgt
    let T : Int := P.softStartMs.toNat
    let a : Int := fda s.cfg.fdaPct.toNat
      (if T ≤ t0 then (s.latches.stAmp.toNat : Int)
        else if s.cfg.rampType = .linear then (s.latches.stAmp.toNat : Int) * t0 / T
        else (s.latches.stAmp.toNat : Int)
          * (511 - interp Config.lutBits (u32 (0x40000000 + t0 * 2 ^ 31 / T))) / 1022) f tgt
    ∃ t, exec .update s = .next t
      ∧ UpdateLeaves s t f a true
      ∧ (T ≤ t0 ∧ (km = 1 ∨ H + R ≤ t0) →
          t.status.motor = .running ∧ t.stateEpoch = s.timeMs ∧ t.latches.redEpoch = s.timeMs
            ∧ t.status.ampReduced = false)
      ∧ (¬(T ≤ t0 ∧ (km = 1 ∨ H + R ≤ t0)) →
          t.status.motor = .starting ∧ t.stateEpoch = s.stateEpoch
            ∧ t.latches.redEpoch = s.latches.redEpoch ∧ t.status.ampReduced = s.status.ampReduced)
      ∧ t.status.swActive = s.status.swActive ∧ SameRuntime s t

/-- R700, R703, R735, R736: UPDATE in Running follows the switch ramp or the target, latches the amplitude
reduction, applies FDA, and counts the elapsed time in whole seconds with the rest kept. -/
def Obligations.UpdateWhileRunning : Prop :=
  ∀ s : State, s.status.sysinit = true → s.status.motor = .running →
    let P := s.profiles.get s.status.speedIdx
    let tgt : Int := targetFreq s s.status.speedIdx
    let ts : Int := ((s.timeMs - s.latches.swEpoch).toNat : Int)
    let D : Int := s.cfg.swRampMs.toNat
    let f : Int :=
      if s.status.swActive = true then
        if D ≤ ts then s32 s.latches.swTo
        else s32 s.latches.swFrom + (s32 s.latches.swTo - s32 s.latches.swFrom) * ts / D
      else tgt
    let reduced : Bool := s.status.ampReduced
      || decide (P.redDelayMs.toNat ≤ (s.timeMs - s.latches.redEpoch).toNat)
    let tamp : Int := ((s.cfg.maxAmpPct.toNat : Int) * 32768 + 50) / 100
    let a : Int := fda s.cfg.fdaPct.toNat
      (if reduced = true then (tamp * P.redPct.toNat + 50) / 100 else tamp) f tgt
    let ms : Nat := s.latches.rtAcc.toNat + (s.timeMs - s.latches.lastUpdate).toNat
    ∃ t, exec .update s = .next t
      ∧ UpdateLeaves s t f a true
      ∧ t.status.motor = .running ∧ t.stateEpoch = s.stateEpoch
      ∧ t.status.swActive = (s.status.swActive && decide (ts < D))
      ∧ t.status.ampReduced = reduced ∧ t.latches.redEpoch = s.latches.redEpoch
      ∧ t.sessionRt = s.sessionRt + BitVec.ofNat 32 (ms / 1000)
      ∧ t.totalRt = s.totalRt + BitVec.ofNat 32 (ms / 1000)
      ∧ t.latches.rtAcc.toNat = ms % 1000

/-- R700, R737 to R740: UPDATE in Stopping drives the brake mode, with no FDA, and completes the stop in
every mode once the brake duration has elapsed. -/
def Obligations.UpdateWhileStopping : Prop :=
  ∀ s : State, s.status.sysinit = true → s.status.motor = .stopping →
    let t0 : Int := ((s.timeMs - s.stateEpoch).toNat : Int)
    let T : Int := s.cfg.brakeMs.toNat
    let a0 : Int := s.latches.stopA0.toNat
    ∃ t, exec .update s = .next t
      ∧ (T ≤ t0 →
          UpdateLeaves s t |s32 s.latches.stopTgt| 0 false
            ∧ t.status.motor = .stopped ∧ t.stateEpoch = s.timeMs)
      ∧ (t0 < T →
          t.status.motor = .stopping ∧ t.stateEpoch = s.stateEpoch
            ∧ (s.cfg.brakeMode = .off →
                UpdateLeaves s t (s32 s.latches.stopF0) (a0 + (0 - a0) * t0 / T) true)
            ∧ (s.cfg.brakeMode = .ramp →
                UpdateLeaves s t
                  (s.cfg.brakeStartMhz.toNat
                    + ((s.cfg.brakeStopMhz.toNat : Int) - s.cfg.brakeStartMhz.toNat) * t0 / T)
                  (a0 + (0 - a0) * t0 / T) true)
            ∧ (s.cfg.brakeMode = .pulse →
                UpdateLeaves s t (-s32 s.latches.stopTgt)
                  (if t0 / s.cfg.pulseGapMs.toNat % 2 = 0 then (s.latches.stopTamp.toNat : Int) else 0)
                  true))
      ∧ t.status.swActive = s.status.swActive ∧ t.status.ampReduced = s.status.ampReduced
      ∧ t.latches.redEpoch = s.latches.redEpoch ∧ SameRuntime s t

/-- R710 to R713, R720: the interpolation, the two soft-start ramps and FDA have the values their rules
write; the ramps start and end where they should and stay between, and FDA only lowers an amplitude, to
nothing less than 0, and not at all when disabled, at 100 % or at the target frequency. -/
def Obligations.RampsStayBetweenTheirEnds : Prop :=
  (∀ v0 v1 t T : Int, 0 ≤ t → 0 ≤ T →
      (T ≤ t → lerp v0 v1 t T = v1) ∧ (t < T → lerp v0 v1 t T = v0 + (v1 - v0) * t / T)
        ∧ (0 < T → lerp v0 v1 0 T = v0)
        ∧ min v0 v1 ≤ lerp v0 v1 t T ∧ lerp v0 v1 t T ≤ max v0 v1)
    ∧ (∀ (L : LutBits) (ty : RampType) (tg t T : Int), 0 ≤ tg → 0 ≤ t → 0 ≤ T →
        (T ≤ t → ramp L ty tg t T = tg) ∧ (0 < T → ramp L ty tg 0 T = 0)
          ∧ (t < T → ramp L .linear tg t T = tg * t / T)
          ∧ (t < T → ramp L .sCurve tg t T
              = tg * (511 - interp L (u32 (0x40000000 + t * 2 ^ 31 / T))) / 1022)
          ∧ 0 ≤ ramp L ty tg t T ∧ ramp L ty tg t T ≤ tg)
    ∧ ∀ r a f tgt : Int, 0 ≤ r → r ≤ 100 → 0 ≤ a → 0 < tgt →
        let q16 := min (max (f * 65536 / tgt) 0) 65536
        let sc := (r * 65536 + (100 - r) * q16) / 100
        (r ≠ 0 → fda r a f tgt = a * sc / 65536)
          ∧ 0 ≤ fda r a f tgt ∧ fda r a f tgt ≤ a
          ∧ (r = 0 ∨ r = 100 ∨ tgt ≤ f → fda r a f tgt = a)

/-- R602, R603, R604: the target frequency is the profile's nominal value times one plus the effective
pitch, within the profile's bounds; the effective pitch, which CUR_PITCH reads, is PITCH_RAW within
the pitch range; the target amplitude is its percentage of 32 768. -/
def Obligations.TargetsFollowProfileAndPitch : Prop :=
  ∀ (s : State) (k : Speed),
    let p := s.profiles.get k
    let mn : Int := (min p.minMhz.toNat p.maxMhz.toNat : Nat)
    let mx : Int := (max p.minMhz.toNat p.maxMhz.toNat : Nat)
    let nom : Int := min (max (p.nominalMhz.toNat : Int) mn) mx
    let pitch : Int :=
      min (max (s32 s.pitchRaw) (-(100 * s.cfg.pitchRange.toNat : Int))) (100 * s.cfg.pitchRange.toNat)
    effPitch s = pitch ∧ memRead 0x010 4 s = (u32 pitch, s)
      ∧ targetFreq s k = min (max (nom + nom * pitch / 10000) mn) mx
      ∧ (ConfigLegal s → 10000 ≤ targetFreq s k ∧ targetFreq s k ≤ 3000000)
      ∧ targetAmp s = ((s.cfg.maxAmpPct.toNat : Int) * 32768 + 50) / 100

/-- R830: on legal configuration the effective values are ordered, the target frequency lies between them,
the effective pitch is within the pitch range, and the target amplitude is in 0 to 32 768. -/
def Obligations.TargetsStayInTheirBounds : Prop :=
  ∀ (s : State) (k : Speed), ConfigLegal s →
    let p := s.profiles.get k
    effMin p ≤ effNominal p ∧ effNominal p ≤ effMax p
      ∧ effMin p ≤ targetFreq s k ∧ targetFreq s k ≤ effMax p
      ∧ (effPitch s).natAbs ≤ 100 * s.cfg.pitchRange.toNat
      ∧ 0 ≤ targetAmp s ∧ targetAmp s ≤ 32768
      ∧ (effPitch s = 0 → targetFreq s k = effNominal p)

/-! ## Status, relays and transitions -/

/-- R103: every field of STATUS stands at its bits, STATE and SPEED_IDX with the codes the table gives, and
every other bit reads 0. -/
def Obligations.StatusFieldsStandAtTheirBits : Prop :=
  ∀ s : State, ∃ w : Word, memRead 0x008 4 s = (w, s)
    ∧ (w.extractLsb' 0 3).toNat = (match s.status.motor with
        | .standby => 0 | .stopped => 1 | .starting => 2 | .running => 3 | .stopping => 4)
    ∧ w.getLsbD 3 = s.status.sysinit
    ∧ w.getLsbD 4 = s.status.pub ∧ w.getLsbD 5 = s.status.hasCrit ∧ w.getLsbD 6 = s.status.critMute
    ∧ w.getLsbD 7 = s.status.underrun ∧ w.getLsbD 8 = s.status.buserr ∧ w.getLsbD 9 = s.status.cmderr
    ∧ (w.extractLsb' 10 2).toNat = speedIndex s.status.speedIdx ∧ w.getLsbD 12 = s.status.swActive
    ∧ w.getLsbD 13 = s.status.ampReduced ∧ w.getLsbD 14 = s.status.activeSel
    ∧ w.getLsbD 15 = s.status.started ∧ w.getLsbD 16 = s.status.wdtArmed
    ∧ ∀ i, 17 ≤ i → w.getLsbD i = false

/-- R107, R761, R762: RELAY reads each mute relay and its pin and the standby relay and its pin from RELAY_N,
the motor state and ACTIVE_HIGH, and every other bit as 0. -/
def Obligations.RelayReadsTheRelayLevels : Prop :=
  ∀ s : State, ∃ w : Word, memRead 0x018 4 s = (w, s)
    ∧ (∀ c, c < 4 → w.getLsbD c = decide (c < s.misc.relayN.toNat)
        ∧ w.getLsbD (8 + c) = (if c < s.misc.relayN.toNat then s.cfg.activeHigh else !s.cfg.activeHigh))
    ∧ w.getLsbD 4 = decide (s.status.motor ≠ .standby)
    ∧ w.getLsbD 12 = (if s.status.motor ≠ .standby then s.cfg.activeHigh else !s.cfg.activeHigh)
    ∧ ∀ i, (5 ≤ i ∧ i ≤ 7) ∨ 13 ≤ i → w.getLsbD i = false

/-- R601: where no reset is due, a step that changes the motor state runs one of the table's commands in one
of the table's states, INIT among them from Standby only (the state before INIT, which every step keeps,
is the premise `BeforeInitAtRest`); a due watchdog reset enters Standby from every state. -/
def Obligations.MotorTransitionsAreTheTable : Prop :=
  (∀ s t : State, BeforeInitAtRest s → ¬ResetDue s → step s = .next t →
      t.status.motor ≠ s.status.motor →
      ∃ (w : Word) (i : Instr), nextAgentStep s = .hostWrite 0x004 4 w ∧ decode w = .ok i
        ∧ ((i, s.status.motor, t.status.motor) ∈ ([
            (.start, .standby, .starting), (.start, .stopped, .starting),
            (.stop, .starting, .stopping), (.stop, .running, .stopping),
            (.toggleStandby, .standby, .stopped), (.toggleStandby, .stopped, .standby),
            (.toggleStandby, .starting, .standby), (.toggleStandby, .running, .standby),
            (.toggleStandby, .stopping, .standby), (.wake, .standby, .stopped),
            (.update, .stopped, .standby), (.update, .starting, .running),
            (.update, .stopping, .stopped)] : List (Instr × MotorState × MotorState))
          ∨ (i = .init ∧ s.status.sysinit = false ∧ s.cfg.autoBoot = true ∧ s.status.motor = .standby
              ∧ t.status.motor = (if s.cfg.autoStart = true then .starting else .stopped))))
    ∧ ∀ s : State, ResetDue s → ∃ t, step s = .next t ∧ t.status.motor = .standby

/-! ## Waveform and filters -/

/-- R401: the table's zeros and peaks, its two symmetries, and its bound. -/
def Obligations.LutHasItsSymmetries : Prop :=
  ∀ L : LutBits, let N := lutSize L
    lut L 0 = 0 ∧ lut L (N / 2) = 0 ∧ lut L (N / 4) = 511 ∧ lut L (3 * N / 4) = -511
      ∧ (∀ i, i ≤ N / 2 → lut L (N / 2 - i) = lut L i)
      ∧ (∀ i, 0 < i → i < N → lut L (N - i) = -lut L i)
      ∧ ∀ i, i < N → -511 ≤ lut L i ∧ lut L i ≤ 511

/-- R400: every entry is the one integer nearest to 511·sin(2πi/N), over the reals. -/
def Obligations.LutEntriesAreNearestToTheSine : Prop :=
  ∀ (L : LutBits) (i : Nat), i < lutSize L →
    |(lut L i : ℝ) - 511 * Real.sin (2 * Real.pi * i / lutSize L)| < 1 / 2

/-- R402: the interpolated sample is the entry at the phase's high bits plus the fraction's share, rounded
down, of the step to the next entry, which wraps at the table's end; it lies between its two entries and
within ±511, is the entry itself where the fraction is 0, and does not depend on the phase's low bits. -/
def Obligations.InterpolationStaysBetweenEntries : Prop :=
  ∀ (L : LutBits) (p : Word),
    let idx := p.toNat / 2 ^ (32 - L.bits)
    let frac := p.toNat / 2 ^ (22 - L.bits) % 1024
    let s0 := lut L idx
    let s1 := lut L ((idx + 1) % lutSize L)
    interp L p = s0 + (s1 - s0) * frac / 1024
      ∧ min s0 s1 ≤ interp L p ∧ interp L p ≤ max s0 s1 ∧ -511 ≤ interp L p ∧ interp L p ≤ 511
      ∧ (frac = 0 → interp L p = s0)
      ∧ ∀ q : Word, q.toNat / 2 ^ (22 - L.bits) = p.toNat / 2 ^ (22 - L.bits) → interp L q = interp L p

/-- R410, R411: the phase increment is the frequency's share of 2^32 per tick rounded to nearest, odd in the
frequency and below 2^31; the phase offset is the angle's share of 2^32 rounded to nearest. -/
def Obligations.PhaseStepsAreRoundedShares : Prop :=
  (∀ f : Int, f.natAbs ≤ 12000000 →
      (2 * (s32 (phaseInc f) * 50000000 - f * 2 ^ 32)).natAbs ≤ 50000000
        ∧ phaseInc (-f) = -phaseInc f ∧ (s32 (phaseInc f)).natAbs ≤ 1030792151)
    ∧ ∀ d : Word, d.toNat ≤ 35999 →
        (2 * (((phaseOff d).toNat : Int) * 36000 - d.toNat * 2 ^ 32)).natAbs ≤ 36000

/-- R521: after eight samples the FIR output is the rounded convolution of the taps with those samples,
newest first, whatever the ring held before and wherever its index stood. -/
def Obligations.FirOutputIsTheConvolution : Prop :=
  ∀ (tab : FirTable) (p : FirProfile) (ch : ChanFilter) (x : Fin 8 → Int),
    (∀ k, (x k).natAbs ≤ 511) →
      ((List.ofFn x).foldl (fun r v => firStep tab p v r.2) ((0 : Int), ch)).1
        = (∑ k : Fin 8, (tab p k).toInt * x (7 - k) + 16384) / 32768

/-- R510, R512: an IIR step from a history within its bound stores `α·x + (65536 − α)·y / 65536`, rounded
down, which stays within the bound, answers it rounded to a sample within ±511, and leaves the FIR ring
and index alone. R521, R522: a FIR step stores the sample at the index, keeps the other slots and the IIR
history, advances the index modulo 8, and answers the rounded sum over the ring, newest first; a ring
within ±511 stays so, and with the default tables the answer is within ±511. -/
def Obligations.FilterStepsStayInRange : Prop :=
  ∀ (ch : ChanFilter) (x : Int), x.natAbs ≤ 511 →
    (∀ alpha : BitVec 16, (s32 ch.iirY).natAbs ≤ 511 * 65536 →
        let yq : Int := alpha.toNat * x + (65536 - alpha.toNat) * s32 ch.iirY / 65536
        let r := iirStep alpha x ch
        s32 r.2.iirY = yq ∧ r.1 = (yq + 32768) / 65536
          ∧ (s32 r.2.iirY).natAbs ≤ 511 * 65536 ∧ r.1.natAbs ≤ 511
          ∧ r.2.firPtr = ch.firPtr ∧ r.2.firHist = ch.firHist)
      ∧ ∀ (tab : FirTable) (p : FirProfile),
        let r := firStep tab p x ch
        (∀ k : Fin 8, s32 r.2.firHist[k] = if k = ch.firPtr then x else s32 ch.firHist[k])
          ∧ r.2.firPtr.val = (ch.firPtr.val + 1) % 8 ∧ r.2.iirY = ch.iirY
          ∧ r.1 = (∑ k : Fin 8, (tab p k).toInt * s32 r.2.firHist[ch.firPtr - k] + 16384) / 32768
          ∧ ((∀ k : Fin 8, (s32 ch.firHist[k]).natAbs ≤ 511) →
              (∀ k : Fin 8, (s32 r.2.firHist[k]).natAbs ≤ 511)
                ∧ (tab = Config.firCoeffDefault → r.1.natAbs ≤ 511))

/-! ## The engine's agents -/

/-- R431, R530: the swap makes the pending block active and leaves both equal, clears PUB, and resets every
filter exactly when the filter kind changes. -/
def Obligations.SwapExchangesTheBlocks : Prop :=
  ∀ s : State,
    (swap s).activeBlock = s.pendingBlock ∧ (swap s).pendingBlock = s.pendingBlock
      ∧ (swap s).status.activeSel = !s.status.activeSel ∧ (swap s).status.pub = false
      ∧ (s.pendingBlock.kind = s.activeBlock.kind → (swap s).filters = s.filters)
      ∧ (s.pendingBlock.kind ≠ s.activeBlock.kind → ∀ c : Fin 4, (swap s).filters[c].iirY = 0
          ∧ (swap s).filters[c].firPtr = 0 ∧ ∀ k : Fin 8, (swap s).filters[c].firHist[k] = 0)
      ∧ { swap s with
          ddsA := s.ddsA, ddsB := s.ddsB, filters := s.filters
          status := { (swap s).status with activeSel := s.status.activeSel, pub := s.status.pub } } = s
      ∧ SameMemory s (swap s)

/-- R430, R431, R433: where SYSINIT = 1 and the next half is free, the step REFILL is `refill` with the
build's table size and coefficients; it consumes the free signal of its half, swaps a pending publication
in, marks the half ready, moves to the other half, starts the consumer once both are ready, and
writes no byte of the other half. -/
def Obligations.RefillMovesTheBuffer : Prop :=
  ∀ s : State, s.status.sysinit = true → s.bufs.free.get s.bufs.nextFill = true →
    let t := refill Config.lutBits Config.firCoeff s
    agentStep .refill s = .next t
    ∧ t.activeBlock = (if s.status.pub = true then s.pendingBlock else s.activeBlock)
    ∧ t.pendingBlock = s.pendingBlock ∧ t.status.pub = false
    ∧ t.status.activeSel = (s.status.activeSel ^^ s.status.pub)
    ∧ t.bufs.free = s.bufs.free.set s.bufs.nextFill false ∧ t.bufs.irq = s.bufs.irq
    ∧ t.bufs.nextFill = s.bufs.nextFill.other
    ∧ (s.status.started = false ∧ s.bufs.ready.get s.bufs.nextFill.other = true →
        t.status.started = true ∧ t.bufs.playHalf = .h0 ∧ t.bufs.tickPos = 0
          ∧ t.bufs.ready = ⟨false, true⟩)
    ∧ (¬(s.status.started = false ∧ s.bufs.ready.get s.bufs.nextFill.other = true) →
        t.status.started = s.status.started ∧ t.bufs.playHalf = s.bufs.playHalf
          ∧ t.bufs.tickPos = s.bufs.tickPos ∧ t.bufs.ready = s.bufs.ready.set s.bufs.nextFill true)
    ∧ (∀ sl j, j < 256 → bufWord t sl s.bufs.nextFill.other j = bufWord s sl s.bufs.nextFill.other j)
    ∧ (∀ a, a < bufAddr .a s.bufs.nextFill 0 ∨ bufAddr .a s.bufs.nextFill 256 ≤ a →
        a < bufAddr .b s.bufs.nextFill 0 ∨ bufAddr .b s.bufs.nextFill 256 ≤ a →
        t.mem.readByte a = s.mem.readByte a)
    ∧ { t with
        ddsA := s.ddsA, ddsB := s.ddsB, filters := s.filters, masterPhase := s.masterPhase
        mem := s.mem, bufs := s.bufs
        status := { t.status with
          activeSel := s.status.activeSel, pub := s.status.pub, started := s.status.started } } = s

/-- R421, R424: a REFILL of a disabled block writes the centre word everywhere and retains the filter
histories (which a kind change at its swap resets) and the phase. -/
def Obligations.DisabledRefillWritesTheCentre : Prop :=
  ∀ (L : LutBits) (tab : FirTable) (s : State),
    (if s.status.pub = true then s.pendingBlock else s.activeBlock).en = false →
      let t := refill L tab s
      (∀ sl j, j < 256 → bufWord t sl s.bufs.nextFill j = 0x02000200)
        ∧ t.masterPhase = s.masterPhase
        ∧ (s.status.pub = false ∨ s.pendingBlock.kind = s.activeBlock.kind → t.filters = s.filters)
        ∧ (s.status.pub = true ∧ s.pendingBlock.kind ≠ s.activeBlock.kind →
            t.filters = Vector.replicate 4 ChanFilter.zero)

/-- R420, R422 to R424, R452, R453, R500, R501, R531: word j of the half holds the four channels of the one
active block at the master phase plus j increments: each channel's scaled sample at its offset ahead, run
through its filter's j-th step, gated by the phase mode and centred. For every filter kind the filters
are left as those steps leave them and the phase advances by 256 increments; with None no filter state
changes, with IIR no FIR ring or index does, and with FIR no IIR history does. -/
def Obligations.RefillWritesTheSamplesOfOneBlock : Prop :=
  ∀ (L : LutBits) (tab : FirTable) (s : State),
    let S := if s.status.pub = true then s.pendingBlock else s.activeBlock
    let filters0 : Vector ChanFilter 4 :=
      if s.status.pub = true ∧ s.pendingBlock.kind ≠ s.activeBlock.kind then
        Vector.replicate 4 ⟨0, 0, Vector.replicate 8 0⟩
      else s.filters
    let off : Fin 4 → Word := fun c =>
      if c = 0 then 0 else if c = 1 then S.off1 else if c = 2 then S.off2 else S.off3
    let sample : Fin 4 → Nat → Int := fun c j =>
      ((S.amp.toNat : Int) * interp L (s.masterPhase + BitVec.ofNat 32 j * S.phaseInc + off c) + 16384)
        / 32768
    let filter : Int → ChanFilter → Int × ChanFilter := fun x ch =>
      match S.kind with
      | .none => (x, ch)
      | .iir => iirStep S.alpha x ch
      | .fir => firStep tab S.firp x ch
    let history : Fin 4 → Nat → ChanFilter := fun c j =>
      (List.range j).foldl (fun ch i => (filter (sample c i) ch).2) filters0[c]
    let cc : Fin 4 → Nat → Nat := fun c j =>
      if S.pm.toNat ≤ c.val then 512
      else (min (max ((filter (sample c j) (history c j)).1 + 512) 0) 1023).toNat
    S.en = true →
      let t := refill L tab s
      (∀ j, j < 256 →
          (bufWord t .a s.bufs.nextFill j).toNat = cc 0 j + 65536 * cc 1 j
            ∧ (bufWord t .b s.bufs.nextFill j).toNat = cc 2 j + 65536 * cc 3 j)
        ∧ (∀ c : Fin 4, t.filters[c] = history c 256)
        ∧ t.masterPhase = s.masterPhase + 256 * S.phaseInc
        ∧ (S.kind = .none → t.filters = filters0)
        ∧ (S.kind = .iir → ∀ c : Fin 4,
            t.filters[c].firHist = filters0[c].firHist ∧ t.filters[c].firPtr = filters0[c].firPtr)
        ∧ (S.kind = .fir → ∀ c : Fin 4, t.filters[c].iirY = filters0[c].iirY)

/-- R440, R441: where STARTED = 1, TICK plays the word of both slices at its position and advances; at the half's
end it marks the completion and chains to the partner, ready or not, raising UNDERRUN when not. -/
def Obligations.TickPlaysTheHalf : Prop :=
  ∀ s : State, s.status.started = true → ∃ t, agentStep .tick s = .next t
    ∧ t.pwmOutA = bufWord s .a s.bufs.playHalf s.bufs.tickPos.val
    ∧ t.pwmOutB = bufWord s .b s.bufs.playHalf s.bufs.tickPos.val
    ∧ t.tickCount = s.tickCount + 1
    ∧ (s.bufs.tickPos.val < 255 → t.bufs.tickPos.val = s.bufs.tickPos.val + 1
        ∧ { t.bufs with tickPos := s.bufs.tickPos } = s.bufs ∧ t.status = s.status)
    ∧ (s.bufs.tickPos.val = 255 → t.bufs.tickPos = 0 ∧ t.bufs.playHalf = s.bufs.playHalf.other
        ∧ t.bufs.irq = s.bufs.irq.set s.bufs.playHalf true
        ∧ t.bufs.ready = s.bufs.ready.set s.bufs.playHalf.other false
        ∧ t.bufs.free = s.bufs.free ∧ t.bufs.nextFill = s.bufs.nextFill
        ∧ t.status.underrun = (s.status.underrun || !s.bufs.ready.get s.bufs.playHalf.other))
    ∧ { t with
        pwmOutA := s.pwmOutA, pwmOutB := s.pwmOutB, tickCount := s.tickCount, bufs := s.bufs
        status := { t.status with underrun := s.status.underrun } } = s
    ∧ SameMemory s t

/-- R445, R920: an ISR step of a half whose completion is pending clears it and frees the half, and CLK advances the
time; neither changes anything else. -/
def Obligations.IsrFreesAndClkCounts : Prop :=
  (∀ (s : State) (h : Half), s.bufs.irq.get h = true → ∃ t, agentStep (.isr h) s = .next t
      ∧ t.bufs.irq.get h = false ∧ t.bufs.free.get h = true
      ∧ t.bufs.irq.get h.other = s.bufs.irq.get h.other
      ∧ t.bufs.free.get h.other = s.bufs.free.get h.other
      ∧ { t with bufs := { t.bufs with irq := s.bufs.irq, free := s.bufs.free } } = s
      ∧ SameMemory s t)
    ∧ ∀ s : State, ∃ t, agentStep .clk s = .next t
      ∧ t.timeMs.toNat = (s.timeMs.toNat + 1) % 2 ^ 32 ∧ { t with timeMs := s.timeMs } = s
      ∧ SameMemory s t

/-! ## Register access -/

/-- R810, R813, R814: a write to each global configuration register is read back legalised. -/
def Obligations.GlobalWritesReadBackLegal : Prop :=
  ∀ (s : State) (v : Word),
    let clamped : Nat → Nat → Word := fun lo hi => BitVec.ofNat 32 (min (max v.toNat lo) hi)
    let code : Nat → Nat := fun c => if c % 4 = 3 then 0 else c % 4
    ReadsBack s 0x200 v (clamped 1 4) ∧ ReadsBack s 0x204 v (clamped 0 100)
      ∧ ReadsBack s 0x208 v (v &&& 1) ∧ ReadsBack s 0x20C v (clamped 0 100)
      ∧ ReadsBack s 0x210 v (v &&& 1) ∧ ReadsBack s 0x214 v (clamped 1000 5000)
      ∧ ReadsBack s 0x218 v (BitVec.ofNat 32 (code v.toNat)) ∧ ReadsBack s 0x21C v (clamped 0 60000)
      ∧ ReadsBack s 0x220 v (clamped 1 60000) ∧ ReadsBack s 0x224 v (clamped 0 3000000)
      ∧ ReadsBack s 0x228 v (clamped 0 3000000) ∧ ReadsBack s 0x22C v (v &&& 7)
      ∧ ReadsBack s 0x230 v (clamped 0 60000) ∧ ReadsBack s 0x234 v (clamped 0 1440)
      ∧ ReadsBack s 0x238 v (BitVec.ofNat 32 (v.toNat % 32 + 256 * code (v.toNat / 256)))
      ∧ ReadsBack s 0x23C v (BitVec.ofNat 32 (10 * (min (max v.toNat 10) 50 / 10)))
      ∧ ReadsBack s 0x240 v (clamped 0 60000)

/-- R811 to R813: a write to each speed-profile register is read back legalised, for all three profiles. -/
def Obligations.ProfileWritesReadBackLegal : Prop :=
  ∀ (s : State) (v : Word) (base : Nat), base = 0x300 ∨ base = 0x340 ∨ base = 0x380 →
    let clamped : Nat → Nat → Word := fun lo hi => BitVec.ofNat 32 (min (max v.toNat lo) hi)
    let code : Nat → Nat := fun c => if c % 4 = 3 then 0 else c % 4
    let wrapped : Word := BitVec.ofInt 32 (v.toInt % 36000)
    ReadsBack s base v (clamped 10000 3000000) ∧ ReadsBack s (base + 0x04) v (clamped 10000 3000000)
      ∧ ReadsBack s (base + 0x08) v (clamped 10000 3000000) ∧ ReadsBack s (base + 0x0C) v wrapped
      ∧ ReadsBack s (base + 0x10) v wrapped ∧ ReadsBack s (base + 0x14) v wrapped
      ∧ ReadsBack s (base + 0x18) v wrapped ∧ ReadsBack s (base + 0x1C) v (clamped 0 10000)
      ∧ ReadsBack s (base + 0x20) v (clamped 1 4) ∧ ReadsBack s (base + 0x24) v (clamped 0 15000)
      ∧ ReadsBack s (base + 0x28) v (clamped 0 15000) ∧ ReadsBack s (base + 0x2C) v (clamped 50 100)
      ∧ ReadsBack s (base + 0x30) v (clamped 0 60000)
      ∧ ReadsBack s (base + 0x34) v (BitVec.ofNat 32 (code v.toNat + 16 * code (v.toNat / 16)))
      ∧ ReadsBack s (base + 0x38) v (clamped 655 64881)

/-- R206: a write to a configuration register completes, changes configuration only, and leaves the value of
every other configuration register alone; a write to TOTAL_RT changes TOTAL_RT only. -/
def Obligations.ConfigWritesTouchOneRegister : Prop :=
  (∀ (s : State) (v : Word) (off : Nat), 0x200 ≤ off → off ≤ 0x3FF → off % 4 = 0 → ¬reservedOffset off →
      ∃ t, memWrite off 4 v s = .next t
        ∧ (∀ off', 0x200 ≤ off' → off' ≤ 0x3FF → off' % 4 = 0 → ¬reservedOffset off' → off' ≠ off →
            (memRead off' 4 t).1 = (memRead off' 4 s).1)
        ∧ { t with cfg := s.cfg, profiles := s.profiles } = s ∧ SameMemory s t)
    ∧ ∀ (s : State) (v : Word), memWrite 0x020 4 v s = .next { s with totalRt := v }

/-- R202, R180, R906: an access that is not 32 bits wide, not aligned, above the space or at a reserved
offset sets BUSERR and has no other effect; a read then returns 0. -/
def Obligations.IllegalAccessOnlySetsBuserr : Prop :=
  ∀ (off n : Nat) (v : Word) (s : State),
    n ≠ 4 ∨ off % 4 ≠ 0 ∨ 0x1FFF < off ∨ reservedOffset off →
      memRead off n s = (0, { s with status.buserr := true })
        ∧ memWrite off n v s = .next { s with status.buserr := true }

/-- R205, R803, R204: every legal offset that is not reserved holds a register, a read of it answers what the
register holds or computes, changes no state and sets no BUSERR, and CMD reads 0. The registers read what
R101 to R120, R140, R141, R145 to R147, R160 and R170 give them at the offsets of R204, and the buffer
window reads the buffer words; STATUS, CUR_PITCH and RELAY have statements of their own. -/
def Obligations.RegisterReadsHaveNoSideEffect : Prop :=
  (∀ (off : Nat) (s : State), off % 4 = 0 → off ≤ 0x1FFF → ¬reservedOffset off →
    (memRead off 4 s).2 = s ∧ ∃ r, readTarget off 4 = some r ∧ (memRead off 4 s).1 = readReg r s)
    ∧ ∀ s : State, memRead 0x004 4 s = (0, s)
      ∧ (∀ r ∈ statusMap s, memRead r.1 4 s = (r.2, s))
      ∧ (∀ r ∈ engineMap s, memRead r.1 4 s = (r.2, s))
      ∧ (∀ r ∈ configMap s, memRead r.1 4 s = (r.2, s))
      ∧ (∀ (c : Fin 4) (k : Fin 8),
          memRead (0x120 + 0x20 * c.val + 4 * k.val) 4 s = (s.filters[c].firHist[k], s))
      ∧ ∀ (sl : Slice) (h : Half) (j : Nat), j < 256 →
          memRead (0x1000 + 0x800 * (match sl with | .a => 0 | .b => 1)
            + 0x400 * (match h with | .h0 => 0 | .h1 => 1) + 4 * j) 4 s = (bufWord s sl h j, s)

/-- R802: a write to a read-only register or buffer word is ignored without error. -/
def Obligations.ReadOnlyWritesAreIgnored : Prop :=
  ∀ (off : Nat) (v : Word) (s : State), off % 4 = 0 → off ≤ 0x1FFF → ¬reservedOffset off →
    off ≠ 0x004 → off ≠ 0x020 → off < 0x200 ∨ 0x1000 ≤ off → memWrite off 4 v s = .next s

/-! ## The whole machine -/

/-- R908: UNDERRUN, BUSERR, CMDERR and HAS_CRIT, once set, stay set through every step but a watchdog
reset, which clears them. -/
def Obligations.StickyBitsClearOnlyAtReset : Prop :=
  ∀ s t : State, step s = .next t →
    (¬ResetDue s →
        (s.status.underrun = true → t.status.underrun = true)
          ∧ (s.status.buserr = true → t.status.buserr = true)
          ∧ (s.status.cmderr = true → t.status.cmderr = true)
          ∧ (s.status.hasCrit = true → t.status.hasCrit = true))
      ∧ (ResetDue s → t.status = State.reset.status)

/-- R931, R1001: where the watchdog is armed and 2000 ms have passed since its feed, the step is the reset
of the block, whatever is scheduled. The schedule, the choices and the HOST's last read data stay:
that part is the model's choice (log entry 11). -/
def Obligations.DueWatchdogResetsTheBlock : Prop :=
  ∀ s : State, s.status.wdtArmed = true → 2000 ≤ (s.timeMs - s.latches.wdtFeed).toNat →
    ∃ t, step s = .next t
      ∧ { t with schedule := [], choices := 0, busData := 0 } = State.reset
      ∧ t.schedule = s.schedule ∧ t.choices = s.choices ∧ t.busData = s.busData

/-- R701, R930, R1024, R1011: every step keeps the watchdog's bookkeeping, and so an UPDATE that runs sees at
most 1999 ms since the last one; and every step keeps the block at rest until INIT. -/
def Obligations.WatchdogIsNeverOverdue : Prop :=
  (∀ s t : State, WatchdogKept s → step s = .next t → WatchdogKept t)
    ∧ (∀ s : State, WatchdogKept s → s.status.sysinit = true → ¬ResetDue s →
        (s.timeMs - s.latches.lastUpdate).toNat ≤ 1999)
    ∧ ∀ s t : State, BeforeInitAtRest s → step s = .next t → BeforeInitAtRest t

/-- R228: in a run without UNDERRUN, each buffer half always has exactly one holder among SYN's free
signal, the ready mark, the pending completion and the consumer; every step keeps this. -/
def Obligations.EachHalfKeepsOneHolder : Prop :=
  ∀ s t : State, BufferProtocol s → step s = .next t → BufferProtocol t

/-- R228: in a run without UNDERRUN, SYN never writes the half the DMA is playing. -/
def Obligations.RefillNeverWritesThePlayedHalf : Prop :=
  ∀ (L : LutBits) (tab : FirTable) (s : State),
    BufferProtocol s → ContractKept s → s.bufs.free.get s.bufs.nextFill = true →
      s.status.started = true →
      s.bufs.nextFill ≠ s.bufs.playHalf
        ∧ (refill L tab s).bufs.playHalf = s.bufs.playHalf
        ∧ ∀ sl j, j < 256 →
            bufWord (refill L tab s) sl s.bufs.playHalf j = bufWord s sl s.bufs.playHalf j

/-- R810, R811, D38: every configuration register holds a legal value at every step. -/
def Obligations.ConfigurationStaysLegal : Prop :=
  ∀ s t : State, ConfigLegal s → step s = .next t → ConfigLegal t

/-- R14: every stored value with a range (R13, R106, R111, R118 to R120, R140, R410) stays inside it, the
blocks' smoothing factors and phase increments among them. -/
def Obligations.StoredValuesStayInRange : Prop :=
  ∀ s t : State, ValuesInRange s → step s = .next t → ValuesInRange t

/-- R147, R512: the filter histories stay within their bounds, where the stored values are in range. -/
def Obligations.FilterHistoriesStayInRange : Prop :=
  ∀ s t : State, ValuesInRange s → FiltersInRange s → step s = .next t → FiltersInRange t

/-- Buffer memory keeps its canonical form (log entry 8), and the layout of R150 and R116: every bit of a
buffer word and of an output word outside the two compare values stays 0. -/
def Obligations.BufferMemoryKeepsItsForm : Prop :=
  ∀ s t : State, step s = .next t →
    (s.mem.wf = true → t.mem.wf = true)
      ∧ (BufferLayout s → BufferLayout t ∧ (OutputLayout s → OutputLayout t))

/-- The reset state meets every invariant stated above. -/
def Obligations.ResetMeetsTheInvariants : Prop :=
  WatchdogKept State.reset ∧ BeforeInitAtRest State.reset ∧ BufferProtocol State.reset ∧ ContractKept State.reset
    ∧ ValuesInRange State.reset ∧ FiltersInRange State.reset ∧ State.reset.mem.wf = true
    ∧ BufferLayout State.reset ∧ OutputLayout State.reset

/-- R916, R802, agent by agent. HOST: a read changes at most BUSERR (and what the HOST read); a write that is
no command changes at most the configuration, TOTAL_RT and BUSERR; a command changes nothing of the
engine, its active block or the time, never clears PUB, and only LOAD_DEFAULTS and a SettingsCorrupt
report change the configuration. SYN, DMA, ISR and CLK change nothing but the fields restored here;
among the halves' flags SYN clears FREE and sets READY, DMA clears READY and sets IRQ, ISR clears IRQ and
sets FREE. SYN's consumer start, once, also writes PLAY_HALF, TICK_POS and READY0, which R916 lists
under DMA: there the model follows R433 (log entry 21). -/
def Obligations.AgentsKeepToTheirOwnState : Prop :=
  (∀ (s t : State) (off n : Nat) (v : Word), agentStep (.hostWrite off n v) s = .next t →
      SameEngine s t ∧ t.timeMs = s.timeMs ∧ t.activeBlock = s.activeBlock
        ∧ (s.status.pub = true → t.status.pub = true)
        ∧ (¬(off = 0x004 ∧ n = 4) →
            { t with
              cfg := s.cfg, profiles := s.profiles, totalRt := s.totalRt
              status := { t.status with buserr := s.status.buserr } } = s)
        ∧ (off = 0x004 → n = 4 → decode v ≠ .ok .loadDefaults → (∀ c, decode v ≠ .ok (.reportError 2 c)) →
            t.cfg = s.cfg ∧ t.profiles = s.profiles))
    ∧ (∀ (s t : State) (off n : Nat), agentStep (.hostRead off n) s = .next t →
        SameEngine s t
          ∧ { t with busData := s.busData, status := { t.status with buserr := s.status.buserr } } = s)
    ∧ (∀ s t : State, agentStep .refill s = .next t →
        { t with
            ddsA := s.ddsA, ddsB := s.ddsB, filters := s.filters, masterPhase := s.masterPhase
            mem := s.mem
            status := { t.status with
              activeSel := s.status.activeSel, pub := s.status.pub, started := s.status.started }
            bufs := { t.bufs with
              free := s.bufs.free, ready := s.bufs.ready, nextFill := s.bufs.nextFill
              playHalf := s.bufs.playHalf, tickPos := s.bufs.tickPos } } = s
          ∧ (t.status.pub = true → s.status.pub = true)
          ∧ (s.status.started = true → t.status.started = true ∧ t.bufs.playHalf = s.bufs.playHalf
              ∧ t.bufs.tickPos = s.bufs.tickPos)
          ∧ ∀ h, (t.bufs.free.get h = true → s.bufs.free.get h = true)
              ∧ (t.status.started = s.status.started → s.bufs.ready.get h = true →
                  t.bufs.ready.get h = true))
    ∧ (∀ s t : State, agentStep .tick s = .next t →
        { t with
            pwmOutA := s.pwmOutA, pwmOutB := s.pwmOutB, tickCount := s.tickCount
            status := { t.status with underrun := s.status.underrun }
            bufs := { t.bufs with
              ready := s.bufs.ready, irq := s.bufs.irq, playHalf := s.bufs.playHalf
              tickPos := s.bufs.tickPos } } = s
          ∧ SameMemory s t
          ∧ ∀ h, (t.bufs.ready.get h = true → s.bufs.ready.get h = true)
              ∧ (s.bufs.irq.get h = true → t.bufs.irq.get h = true))
    ∧ (∀ (s t : State) (k : Half), agentStep (.isr k) s = .next t →
        { t with bufs := { t.bufs with irq := s.bufs.irq, free := s.bufs.free } } = s ∧ SameMemory s t
          ∧ ∀ h, (t.bufs.irq.get h = true → s.bufs.irq.get h = true)
              ∧ (s.bufs.free.get h = true → t.bufs.free.get h = true))
    ∧ ∀ s t : State, agentStep .clk s = .next t → { t with timeMs := s.timeMs } = s ∧ SameMemory s t
end

