-- ==== Sys2Proof/Laws/Memory.lean ====
section
/-!
SUPPORT. What the buffer-memory operations do (spec/10_state.md R150): every byte after a store, every
word after a run of word stores, and the canonical form, which every store keeps.
-/

namespace Sys2Proof.Machine

open Sys2Proof

namespace Memory

/-! ## Reading -/

@[simp] theorem readByte_nil (x : Nat) : readByte [] x = 0 := rfl

theorem readByte_cons (a : Nat) (b : Byte) (m : Memory) (x : Nat) :
    readByte ((a, b) :: m) x = if a = x then b else readByte m x := rfl

theorem readByte_eq_zero_of_forall_ne (m : Memory) (x : Nat) (h : ∀ c ∈ m, c.1 ≠ x) :
    readByte m x = 0 := by
  induction m with
  | nil => rfl
  | cons c m ih =>
    obtain ⟨a, b⟩ := c
    rw [readByte_cons, if_neg (h (a, b) (by simp)), ih fun c hc => h c (by simp [hc])]

/-- A read past a front part that does not list the address. -/
theorem readByte_append_of_forall_ne (m n : Memory) (x : Nat) (h : ∀ c ∈ m, c.1 ≠ x) :
    readByte (m ++ n) x = readByte n x := by
  induction m with
  | nil => rfl
  | cons c m ih =>
    obtain ⟨a, b⟩ := c
    rw [List.cons_append, readByte_cons, if_neg (h (a, b) (by simp)),
      ih fun c hc => h c (by simp [hc])]

/-- A read before a back part that does not list the address. -/
theorem readByte_append_of_forall_ne_right (m n : Memory) (x : Nat) (h : ∀ c ∈ n, c.1 ≠ x) :
    readByte (m ++ n) x = readByte m x := by
  induction m with
  | nil => exact readByte_eq_zero_of_forall_ne n x h
  | cons c m ih =>
    obtain ⟨a, b⟩ := c
    rw [List.cons_append, readByte_cons, readByte_cons, ih]

/-- Dropping entries at other addresses changes no read. -/
theorem readByte_filter (m : Memory) (p : Host.Cell → Bool) (x : Nat)
    (h : ∀ b, p (x, b) = true) : readByte (m.filter p) x = readByte m x := by
  induction m with
  | nil => rfl
  | cons c m ih =>
    obtain ⟨a, b⟩ := c
    by_cases hp : p (a, b) = true
    · rw [List.filter_cons_of_pos hp, readByte_cons, readByte_cons, ih]
    · rw [List.filter_cons_of_neg hp, readByte_cons, ih, if_neg]
      rintro rfl
      exact hp (h b)

/-! ## The cells of a run of bytes -/

theorem mem_cellsOf (base : Nat) (bs : List Byte) (c : Host.Cell) (h : c ∈ cellsOf base bs) :
    base ≤ c.1 ∧ c.1 < base + bs.length ∧ c.2 ≠ 0 := by
  induction bs generalizing base with
  | nil => simp [cellsOf] at h
  | cons b bs ih =>
    rw [cellsOf] at h
    split at h
    · have := ih (base + 1) h
      simp only [List.length_cons]
      exact ⟨by omega, by omega, this.2.2⟩
    · rcases List.mem_cons.1 h with rfl | h
      · simp only [List.length_cons]
        exact ⟨by omega, by omega, ‹_›⟩
      · have := ih (base + 1) h
        simp only [List.length_cons]
        exact ⟨by omega, by omega, this.2.2⟩

theorem readByte_cellsOf (base : Nat) (bs : List Byte) (j : Nat) (h : j < bs.length) :
    readByte (cellsOf base bs) (base + j) = bs[j] := by
  induction bs generalizing base j with
  | nil => simp at h
  | cons b bs ih =>
    rw [cellsOf]
    cases j with
    | zero =>
      split
      · rw [readByte_eq_zero_of_forall_ne]
        · simp_all
        · intro c hc
          have := mem_cellsOf _ _ _ hc
          omega
      · simp [readByte_cons]
    | succ j =>
      have h' : j < bs.length := by simpa using h
      have e : base + (j + 1) = base + 1 + j := by omega
      split
      · rw [e, ih (base + 1) j h']; simp
      · rw [readByte_cons, if_neg (by omega), e, ih (base + 1) j h']; simp

/-! ## Stores -/

/-- Every byte after a store: the stored one inside the run, what was there before outside it. -/
theorem readByte_writeBytes (m : Memory) (base : Nat) (bs : List Byte) (x : Nat) :
    readByte (m.writeBytes base bs) x =
      if h : base ≤ x ∧ x < base + bs.length then bs[x - base]'(by omega) else readByte m x := by
  rw [writeBytes]
  by_cases hlo : x < base
  · rw [dif_neg (by omega), List.append_assoc, readByte_append_of_forall_ne_right,
      readByte_filter _ _ _ (by simpa using hlo)]
    intro c hc
    rcases List.mem_append.1 hc with hc | hc
    · have := mem_cellsOf _ _ _ hc
      omega
    · have := (List.mem_filter.1 hc).2
      simp only [decide_eq_true_eq] at this
      omega
  · rw [List.append_assoc, readByte_append_of_forall_ne]
    · by_cases hhi : x < base + bs.length
      · rw [dif_pos ⟨by omega, hhi⟩, readByte_append_of_forall_ne_right]
        · have := readByte_cellsOf base bs (x - base) (by omega)
          rwa [show base + (x - base) = x by omega] at this
        · intro c hc
          have := (List.mem_filter.1 hc).2
          simp only [decide_eq_true_eq] at this
          omega
      · rw [dif_neg (by omega), readByte_append_of_forall_ne]
        · exact readByte_filter _ _ _ (by simp; omega)
        · intro c hc
          have := mem_cellsOf _ _ _ hc
          omega
    · intro c hc
      have := (List.mem_filter.1 hc).2
      simp only [decide_eq_true_eq] at this
      omega

/-! ## The canonical form -/

theorem risingFrom_mono (m : Memory) {lo lo' : Nat} (h : lo' ≤ lo) (hm : risingFrom lo m = true) :
    risingFrom lo' m = true := by
  cases m with
  | nil => rfl
  | cons c m =>
    obtain ⟨a, b⟩ := c
    simp only [risingFrom, Bool.and_eq_true, decide_eq_true_eq] at hm ⊢
    exact ⟨⟨by omega, hm.1.2⟩, hm.2⟩

theorem le_of_mem_risingFrom (m : Memory) (lo : Nat) (hm : risingFrom lo m = true) (c : Host.Cell)
    (h : c ∈ m) : lo ≤ c.1 := by
  induction m generalizing lo with
  | nil => simp at h
  | cons d m ih =>
    obtain ⟨a, b⟩ := d
    simp only [risingFrom, Bool.and_eq_true, decide_eq_true_eq] at hm
    rcases List.mem_cons.1 h with rfl | h
    · exact hm.1.1
    · have := ih (a + 1) hm.2 h
      omega

theorem risingFrom_filter (m : Memory) (lo : Nat) (p : Host.Cell → Bool) (hm : risingFrom lo m = true) :
    risingFrom lo (m.filter p) = true := by
  induction m generalizing lo with
  | nil => rfl
  | cons d m ih =>
    obtain ⟨a, b⟩ := d
    simp only [risingFrom, Bool.and_eq_true, decide_eq_true_eq] at hm
    have := ih (a + 1) hm.2
    by_cases hp : p (a, b) = true
    · rw [List.filter_cons_of_pos hp]
      simp only [risingFrom, Bool.and_eq_true, decide_eq_true_eq]
      exact ⟨hm.1, this⟩
    · rw [List.filter_cons_of_neg hp]
      exact risingFrom_mono _ (by omega) this

/-- Two canonical parts make a canonical whole where the second begins past the first. -/
theorem risingFrom_append (m n : Memory) (lo mid : Nat) (hm : risingFrom lo m = true)
    (hn : risingFrom mid n = true) (hlo : lo ≤ mid) (hmid : ∀ c ∈ m, c.1 < mid) :
    risingFrom lo (m ++ n) = true := by
  induction m generalizing lo with
  | nil => exact risingFrom_mono n hlo hn
  | cons d m ih =>
    obtain ⟨a, b⟩ := d
    simp only [List.cons_append, risingFrom, Bool.and_eq_true, decide_eq_true_eq] at hm ⊢
    have := hmid (a, b) (by simp)
    exact ⟨hm.1, ih (a + 1) hm.2 this fun c hc => hmid c (by simp [hc])⟩

theorem risingFrom_cellsOf (base : Nat) (bs : List Byte) : risingFrom base (cellsOf base bs) = true := by
  induction bs generalizing base with
  | nil => rfl
  | cons b bs ih =>
    rw [cellsOf]
    split
    · exact risingFrom_mono _ (by omega) (ih (base + 1))
    · simp only [risingFrom, Bool.and_eq_true, decide_eq_true_eq]
      exact ⟨⟨le_refl _, ‹_›⟩, ih (base + 1)⟩

theorem risingFrom_of_forall_le (m : Memory) (lo lo' : Nat) (hm : risingFrom lo m = true)
    (h : ∀ c ∈ m, lo' ≤ c.1) : risingFrom lo' m = true := by
  cases m with
  | nil => rfl
  | cons d m =>
    obtain ⟨a, b⟩ := d
    simp only [risingFrom, Bool.and_eq_true, decide_eq_true_eq] at hm ⊢
    exact ⟨⟨h (a, b) (by simp), hm.1.2⟩, hm.2⟩

/-- Every store of bytes keeps the canonical form. -/
theorem wf_writeBytes (m : Memory) (base : Nat) (bs : List Byte) (hm : m.wf = true) :
    (m.writeBytes base bs).wf = true := by
  rw [writeBytes, List.append_assoc]
  refine risingFrom_append _ _ 0 base (risingFrom_filter _ _ _ hm) ?_ (Nat.zero_le _) ?_
  · refine risingFrom_append _ _ base (base + bs.length) (risingFrom_cellsOf _ _) ?_ (by omega) ?_
    · refine risingFrom_of_forall_le _ 0 _ (risingFrom_filter _ _ _ hm) fun c hc => ?_
      simpa using (List.mem_filter.1 hc).2
    · exact fun c hc => (mem_cellsOf _ _ _ hc).2.1
  · intro c hc
    simpa using (List.mem_filter.1 hc).2

/-! ## Words -/

@[simp] theorem length_wordBytes (w : Word) : (wordBytes w).length = 4 := rfl

@[simp] theorem length_flatMap_wordBytes (ws : List Word) : (ws.flatMap wordBytes).length = 4 * ws.length := by
  induction ws with
  | nil => rfl
  | cons w ws ih => simp [List.flatMap_cons, ih]; omega

/-- Every store of words keeps the canonical form. -/
theorem wf_writeWords (m : Memory) (a : Nat) (ws : List Word) (hm : m.wf = true) :
    (m.writeWords a ws).wf = true := wf_writeBytes m a _ hm

theorem getElem_flatMap_wordBytes (ws : List Word) (j k : Nat) (hj : j < ws.length) (hk : k < 4) :
    (ws.flatMap wordBytes)[4 * j + k]'(by simp; omega) = (wordBytes ws[j])[k]'(by simpa using hk) := by
  induction ws generalizing j with
  | nil => simp at hj
  | cons w ws ih =>
    cases j with
    | zero =>
      simp only [List.flatMap_cons, List.getElem_cons_zero]
      rw [List.getElem_append_left (by simp; omega)]
      congr 1
      omega
    | succ j =>
      have hj' : j < ws.length := by simpa using hj
      simp only [List.flatMap_cons, List.getElem_cons_succ]
      rw [List.getElem_append_right (by simp; omega), ← ih j hj']
      congr 1
      simp; omega

/-- The word read from four bytes that read as a word's bytes is that word. -/
theorem append_wordBytes (w : Word) :
    w.extractLsb' 24 8 ++ w.extractLsb' 16 8 ++ w.extractLsb' 8 8 ++ w.extractLsb' 0 8 = w := by
  ext i hi
  simp only [BitVec.getElem_append, BitVec.getElem_extractLsb']
  split
  · simp [BitVec.getLsbD_eq_getElem hi]
  · split
    · rw [show 8 + (i - 8) = i by omega, BitVec.getLsbD_eq_getElem hi]
    · split
      · rw [show 16 + (i - 8 - 8) = i by omega, BitVec.getLsbD_eq_getElem hi]
      · rw [show 24 + (i - 8 - 8 - 8) = i by omega, BitVec.getLsbD_eq_getElem hi]

/-- The `j`-th word after a run of word stores is the `j`-th of the run. -/
theorem readWord_writeWords (m : Memory) (a : Nat) (ws : List Word) (j : Nat) (h : j < ws.length) :
    (m.writeWords a ws).readWord (a + 4 * j) = ws[j] := by
  have key (k : Nat) (hk : k < 4) :
      (m.writeWords a ws).readByte (a + 4 * j + k) = (wordBytes ws[j])[k]'(by simpa using hk) := by
    rw [writeWords, readByte_writeBytes, dif_pos (by simp; omega), ← getElem_flatMap_wordBytes ws j k h hk]
    congr 1
    omega
  rw [readWord, key 3 (by omega), key 2 (by omega), key 1 (by omega)]
  have := key 0 (by omega)
  rw [Nat.add_zero] at this
  rw [this]
  exact append_wordBytes _

/-- A byte outside a run of word stores is as before. -/
theorem readByte_writeWords_of_outside (m : Memory) (a : Nat) (ws : List Word) (x : Nat)
    (h : x < a ∨ a + 4 * ws.length ≤ x) : (m.writeWords a ws).readByte x = m.readByte x := by
  rw [writeWords, readByte_writeBytes, dif_neg]
  simp only [length_flatMap_wordBytes]
  omega

/-- A word outside a run of word stores is as before. -/
theorem readWord_writeWords_of_outside (m : Memory) (a : Nat) (ws : List Word) (x : Nat)
    (h : x + 4 ≤ a ∨ a + 4 * ws.length ≤ x) : (m.writeWords a ws).readWord x = m.readWord x := by
  simp only [readWord]
  rw [readByte_writeWords_of_outside, readByte_writeWords_of_outside, readByte_writeWords_of_outside,
    readByte_writeWords_of_outside] <;> omega

end Memory

/-- The reset state's memory is in canonical form. -/
theorem reset_mem_wf : State.reset.mem.wf = true := rfl

end Sys2Proof.Machine
end

