-- ==== Sys2Proof/Laws/Ops.lean ====
section
/-!
SUPPORT. What the shared operations of Machine/Ops.lean and the arithmetic of the machine do: the rounding
primitives' bounds, the two halves' flags, the two DDSState views and the profiles.
-/

namespace Sys2Proof.Machine

open Sys2Proof

/-! ## Integers -/

theorem floorDiv_eq_div (a b : Int) : floorDiv a b = a / b := rfl

/-- R11: `clamp` answers within its bounds where they are in order. -/
theorem clamp_mem (v lo hi : Int) (h : lo ≤ hi) : lo ≤ clamp v lo hi ∧ clamp v lo hi ≤ hi := by
  unfold clamp; omega

theorem clamp_of_mem {v lo hi : Int} (h : lo ≤ v) (h' : v ≤ hi) : clamp v lo hi = v := by
  unfold clamp; omega

/-- What `clampu` stores, as a number. -/
theorem toNat_clampu (v : Word) (lo hi : Nat) (h : hi < 2 ^ 32) :
    (clampu v lo hi).toNat = min (max v.toNat lo) hi := by
  rw [clampu, BitVec.toNat_ofNat, Nat.mod_eq_of_lt (by omega)]

theorem toNat_clampu_le (v : Word) (lo hi : Nat) (h : hi < 2 ^ 32) : (clampu v lo hi).toNat ≤ hi := by
  rw [toNat_clampu v lo hi h]; omega

theorem le_toNat_clampu (v : Word) (lo hi : Nat) (h : hi < 2 ^ 32) (h' : lo ≤ hi) :
    lo ≤ (clampu v lo hi).toNat := by
  rw [toNat_clampu v lo hi h]; omega

/-- A floor of a value between bounds that the divisor divides lies between the quotients. -/
theorem floorDiv_mem {a b lo hi : Int} (hb : 0 < b) (h : lo * b ≤ a) (h' : a ≤ hi * b) :
    lo ≤ floorDiv a b ∧ floorDiv a b ≤ hi :=
  ⟨(Int.le_ediv_iff_mul_le hb).2 h, by
    have := Int.ediv_le_ediv hb h'
    rwa [Int.mul_ediv_cancel _ (by omega)] at this⟩

/-- Rounding half up keeps an integer bound. -/
theorem rhu_mem {a lo hi : Int} (k : Nat) (hk : 1 ≤ k) (h : lo * 2 ^ k ≤ a) (h' : a ≤ hi * 2 ^ k) :
    lo ≤ rhu a k ∧ rhu a k ≤ hi := by
  obtain ⟨j, rfl⟩ : ∃ j, k = j + 1 := ⟨k - 1, by omega⟩
  have h1 : (0 : Int) < 2 ^ j := by positivity
  rw [rhu, floorDiv, Nat.add_sub_cancel]
  rw [pow_succ] at h h' ⊢
  refine ⟨(Int.le_ediv_iff_mul_le (by omega)).2 (by omega), ?_⟩
  rw [← Int.lt_add_one_iff, Int.ediv_lt_iff_lt_mul (by omega), add_mul, one_mul]
  omega

/-- A value of the s32 range survives narrowing and reading back (R10). -/
theorem s32_u32 {v : Int} (h : -2147483648 ≤ v) (h' : v ≤ 2147483647) : s32 (u32 v) = v := by
  rw [s32, u32, BitVec.toInt_ofInt, Int.bmod_def]
  split <;> omega

/-- A value of the u32 range survives narrowing and reading back (R10). -/
theorem toNat_u32 {v : Int} (h : 0 ≤ v) (h' : v < 4294967296) : ((u32 v).toNat : Int) = v := by
  rw [u32, BitVec.toNat_ofInt]
  omega

/-- A word read as signed is itself where its top bit is 0. -/
theorem s32_eq_toNat {w : Word} (h : w.toNat < 2147483648) : s32 w = (w.toNat : Int) := by
  rw [s32, BitVec.toInt_eq_toNat_of_lt (by omega)]

/-! ## The halves -/

@[simp] theorem Half.other_other (h : Half) : h.other.other = h := by cases h <;> rfl

@[simp] theorem Half.other_ne (h : Half) : h.other ≠ h := by cases h <;> decide

@[simp] theorem Half.ne_other (h : Half) : h ≠ h.other := by cases h <;> decide

theorem Half.eq_other_of_ne {h k : Half} (hk : k ≠ h) : k = h.other := by
  revert hk; cases h <;> cases k <;> decide

@[simp] theorem HalfFlags.get_set_same (f : HalfFlags) (h : Half) (b : Bool) : (f.set h b).get h = b := by
  cases h <;> rfl

@[simp] theorem HalfFlags.get_set_other (f : HalfFlags) (h : Half) (b : Bool) :
    (f.set h b).get h.other = f.get h.other := by
  cases h <;> rfl

@[simp] theorem HalfFlags.get_other_set (f : HalfFlags) (h : Half) (b : Bool) :
    (f.set h.other b).get h = f.get h := by
  cases h <;> rfl

theorem HalfFlags.get_set (f : HalfFlags) (h k : Half) (b : Bool) :
    (f.set h b).get k = if k = h then b else f.get k := by
  cases h <;> cases k <;> rfl

/-! ## The DDSState views (R141) -/

@[simp] theorem activeBlock_setPending (s : State) (b : DdsBlock) :
    (s.setPending b).activeBlock = s.activeBlock := by
  unfold State.setPending State.activeBlock; cases h : s.status.activeSel <;> simp [h]

@[simp] theorem pendingBlock_setPending (s : State) (b : DdsBlock) :
    (s.setPending b).pendingBlock = b := by
  unfold State.setPending State.pendingBlock; cases h : s.status.activeSel <;> simp [h]

/-- A store to PENDING writes one of the two blocks and nothing else. -/
theorem setPending_cases (s : State) (b : DdsBlock) :
    (s.status.activeSel = true ∧ s.setPending b = { s with ddsA := b })
      ∨ (s.status.activeSel = false ∧ s.setPending b = { s with ddsB := b }) := by
  unfold State.setPending; cases h : s.status.activeSel <;> simp

theorem activeBlock_congr {s t : State} (h : t.status.activeSel = s.status.activeSel)
    (ha : t.ddsA = s.ddsA) (hb : t.ddsB = s.ddsB) : t.activeBlock = s.activeBlock := by
  unfold State.activeBlock; rw [h, ha, hb]

theorem pendingBlock_congr {s t : State} (h : t.status.activeSel = s.status.activeSel)
    (ha : t.ddsA = s.ddsA) (hb : t.ddsB = s.ddsB) : t.pendingBlock = s.pendingBlock := by
  unfold State.pendingBlock; rw [h, ha, hb]

/-! ## Profiles -/

theorem Profiles.get_set (p : Profiles) (k j : Speed) (q : SpeedProfile) :
    (p.set k q).get j = if j = k then q else p.get j := by
  cases k <;> cases j <;> rfl

/-! ## Reset -/

/-- R1001: what the block reset leaves: the reset state around the environment's fields. -/
theorem blockReset_eq (s : State) :
    blockReset s = { State.reset with schedule := s.schedule, choices := s.choices, busData := s.busData } :=
  rfl

/-- R931: when the watchdog is due. -/
theorem wdtDue_iff (s : State) :
    wdtDue s = true ↔ s.status.wdtArmed = true ∧ 2000 ≤ (s.timeMs - s.latches.wdtFeed).toNat := by
  rw [wdtDue, Bool.and_eq_true, decide_eq_true_eq]; rfl

end Sys2Proof.Machine
end

