-- ==== Sys2Proof/Laws/State.lean ====
section
/-!
SUPPORT. One lemma per field per named update of State, true by rfl, so that no proof unfolds a record
update: what each update writes, and what it leaves as it was.
-/

namespace Sys2Proof.Machine

open Sys2Proof

variable (s : State)

/-! ## raise_underrun -/

@[simp] theorem raise_underrun_status_motor : (raise .underrun s).status.motor = s.status.motor := rfl
@[simp] theorem raise_underrun_status_sysinit : (raise .underrun s).status.sysinit = s.status.sysinit := rfl
@[simp] theorem raise_underrun_status_pub : (raise .underrun s).status.pub = s.status.pub := rfl
@[simp] theorem raise_underrun_status_hasCrit : (raise .underrun s).status.hasCrit = s.status.hasCrit := rfl
@[simp] theorem raise_underrun_status_critMute : (raise .underrun s).status.critMute = s.status.critMute := rfl
@[simp] theorem raise_underrun_status_underrun : (raise .underrun s).status.underrun = true := rfl
@[simp] theorem raise_underrun_status_buserr : (raise .underrun s).status.buserr = s.status.buserr := rfl
@[simp] theorem raise_underrun_status_cmderr : (raise .underrun s).status.cmderr = s.status.cmderr := rfl
@[simp] theorem raise_underrun_status_speedIdx : (raise .underrun s).status.speedIdx = s.status.speedIdx := rfl
@[simp] theorem raise_underrun_status_swActive : (raise .underrun s).status.swActive = s.status.swActive := rfl
@[simp] theorem raise_underrun_status_ampReduced : (raise .underrun s).status.ampReduced = s.status.ampReduced := rfl
@[simp] theorem raise_underrun_status_activeSel : (raise .underrun s).status.activeSel = s.status.activeSel := rfl
@[simp] theorem raise_underrun_status_started : (raise .underrun s).status.started = s.status.started := rfl
@[simp] theorem raise_underrun_status_wdtArmed : (raise .underrun s).status.wdtArmed = s.status.wdtArmed := rfl
@[simp] theorem raise_underrun_curFreq : (raise .underrun s).curFreq = s.curFreq := rfl
@[simp] theorem raise_underrun_curAmp : (raise .underrun s).curAmp = s.curAmp := rfl
@[simp] theorem raise_underrun_curEn : (raise .underrun s).curEn = s.curEn := rfl
@[simp] theorem raise_underrun_sessionRt : (raise .underrun s).sessionRt = s.sessionRt := rfl
@[simp] theorem raise_underrun_totalRt : (raise .underrun s).totalRt = s.totalRt := rfl
@[simp] theorem raise_underrun_errStatus : (raise .underrun s).errStatus = s.errStatus := rfl
@[simp] theorem raise_underrun_errDisplayMs : (raise .underrun s).errDisplayMs = s.errDisplayMs := rfl
@[simp] theorem raise_underrun_timeMs : (raise .underrun s).timeMs = s.timeMs := rfl
@[simp] theorem raise_underrun_masterPhase : (raise .underrun s).masterPhase = s.masterPhase := rfl
@[simp] theorem raise_underrun_bufs : (raise .underrun s).bufs = s.bufs := rfl
@[simp] theorem raise_underrun_stateEpoch : (raise .underrun s).stateEpoch = s.stateEpoch := rfl
@[simp] theorem raise_underrun_pwmOutA : (raise .underrun s).pwmOutA = s.pwmOutA := rfl
@[simp] theorem raise_underrun_pwmOutB : (raise .underrun s).pwmOutB = s.pwmOutB := rfl
@[simp] theorem raise_underrun_tickCount : (raise .underrun s).tickCount = s.tickCount := rfl
@[simp] theorem raise_underrun_latches : (raise .underrun s).latches = s.latches := rfl
@[simp] theorem raise_underrun_misc : (raise .underrun s).misc = s.misc := rfl
@[simp] theorem raise_underrun_pitchRaw : (raise .underrun s).pitchRaw = s.pitchRaw := rfl
@[simp] theorem raise_underrun_ddsA : (raise .underrun s).ddsA = s.ddsA := rfl
@[simp] theorem raise_underrun_ddsB : (raise .underrun s).ddsB = s.ddsB := rfl
@[simp] theorem raise_underrun_filters : (raise .underrun s).filters = s.filters := rfl
@[simp] theorem raise_underrun_mem : (raise .underrun s).mem = s.mem := rfl
@[simp] theorem raise_underrun_cfg : (raise .underrun s).cfg = s.cfg := rfl
@[simp] theorem raise_underrun_profiles : (raise .underrun s).profiles = s.profiles := rfl
@[simp] theorem raise_underrun_schedule : (raise .underrun s).schedule = s.schedule := rfl
@[simp] theorem raise_underrun_choices : (raise .underrun s).choices = s.choices := rfl
@[simp] theorem raise_underrun_busData : (raise .underrun s).busData = s.busData := rfl

/-! ## raise_buserr -/

@[simp] theorem raise_buserr_status_motor : (raise .buserr s).status.motor = s.status.motor := rfl
@[simp] theorem raise_buserr_status_sysinit : (raise .buserr s).status.sysinit = s.status.sysinit := rfl
@[simp] theorem raise_buserr_status_pub : (raise .buserr s).status.pub = s.status.pub := rfl
@[simp] theorem raise_buserr_status_hasCrit : (raise .buserr s).status.hasCrit = s.status.hasCrit := rfl
@[simp] theorem raise_buserr_status_critMute : (raise .buserr s).status.critMute = s.status.critMute := rfl
@[simp] theorem raise_buserr_status_underrun : (raise .buserr s).status.underrun = s.status.underrun := rfl
@[simp] theorem raise_buserr_status_buserr : (raise .buserr s).status.buserr = true := rfl
@[simp] theorem raise_buserr_status_cmderr : (raise .buserr s).status.cmderr = s.status.cmderr := rfl
@[simp] theorem raise_buserr_status_speedIdx : (raise .buserr s).status.speedIdx = s.status.speedIdx := rfl
@[simp] theorem raise_buserr_status_swActive : (raise .buserr s).status.swActive = s.status.swActive := rfl
@[simp] theorem raise_buserr_status_ampReduced : (raise .buserr s).status.ampReduced = s.status.ampReduced := rfl
@[simp] theorem raise_buserr_status_activeSel : (raise .buserr s).status.activeSel = s.status.activeSel := rfl
@[simp] theorem raise_buserr_status_started : (raise .buserr s).status.started = s.status.started := rfl
@[simp] theorem raise_buserr_status_wdtArmed : (raise .buserr s).status.wdtArmed = s.status.wdtArmed := rfl
@[simp] theorem raise_buserr_curFreq : (raise .buserr s).curFreq = s.curFreq := rfl
@[simp] theorem raise_buserr_curAmp : (raise .buserr s).curAmp = s.curAmp := rfl
@[simp] theorem raise_buserr_curEn : (raise .buserr s).curEn = s.curEn := rfl
@[simp] theorem raise_buserr_sessionRt : (raise .buserr s).sessionRt = s.sessionRt := rfl
@[simp] theorem raise_buserr_totalRt : (raise .buserr s).totalRt = s.totalRt := rfl
@[simp] theorem raise_buserr_errStatus : (raise .buserr s).errStatus = s.errStatus := rfl
@[simp] theorem raise_buserr_errDisplayMs : (raise .buserr s).errDisplayMs = s.errDisplayMs := rfl
@[simp] theorem raise_buserr_timeMs : (raise .buserr s).timeMs = s.timeMs := rfl
@[simp] theorem raise_buserr_masterPhase : (raise .buserr s).masterPhase = s.masterPhase := rfl
@[simp] theorem raise_buserr_bufs : (raise .buserr s).bufs = s.bufs := rfl
@[simp] theorem raise_buserr_stateEpoch : (raise .buserr s).stateEpoch = s.stateEpoch := rfl
@[simp] theorem raise_buserr_pwmOutA : (raise .buserr s).pwmOutA = s.pwmOutA := rfl
@[simp] theorem raise_buserr_pwmOutB : (raise .buserr s).pwmOutB = s.pwmOutB := rfl
@[simp] theorem raise_buserr_tickCount : (raise .buserr s).tickCount = s.tickCount := rfl
@[simp] theorem raise_buserr_latches : (raise .buserr s).latches = s.latches := rfl
@[simp] theorem raise_buserr_misc : (raise .buserr s).misc = s.misc := rfl
@[simp] theorem raise_buserr_pitchRaw : (raise .buserr s).pitchRaw = s.pitchRaw := rfl
@[simp] theorem raise_buserr_ddsA : (raise .buserr s).ddsA = s.ddsA := rfl
@[simp] theorem raise_buserr_ddsB : (raise .buserr s).ddsB = s.ddsB := rfl
@[simp] theorem raise_buserr_filters : (raise .buserr s).filters = s.filters := rfl
@[simp] theorem raise_buserr_mem : (raise .buserr s).mem = s.mem := rfl
@[simp] theorem raise_buserr_cfg : (raise .buserr s).cfg = s.cfg := rfl
@[simp] theorem raise_buserr_profiles : (raise .buserr s).profiles = s.profiles := rfl
@[simp] theorem raise_buserr_schedule : (raise .buserr s).schedule = s.schedule := rfl
@[simp] theorem raise_buserr_choices : (raise .buserr s).choices = s.choices := rfl
@[simp] theorem raise_buserr_busData : (raise .buserr s).busData = s.busData := rfl

/-! ## raise_cmderr -/

@[simp] theorem raise_cmderr_status_motor : (raise .cmderr s).status.motor = s.status.motor := rfl
@[simp] theorem raise_cmderr_status_sysinit : (raise .cmderr s).status.sysinit = s.status.sysinit := rfl
@[simp] theorem raise_cmderr_status_pub : (raise .cmderr s).status.pub = s.status.pub := rfl
@[simp] theorem raise_cmderr_status_hasCrit : (raise .cmderr s).status.hasCrit = s.status.hasCrit := rfl
@[simp] theorem raise_cmderr_status_critMute : (raise .cmderr s).status.critMute = s.status.critMute := rfl
@[simp] theorem raise_cmderr_status_underrun : (raise .cmderr s).status.underrun = s.status.underrun := rfl
@[simp] theorem raise_cmderr_status_buserr : (raise .cmderr s).status.buserr = s.status.buserr := rfl
@[simp] theorem raise_cmderr_status_cmderr : (raise .cmderr s).status.cmderr = true := rfl
@[simp] theorem raise_cmderr_status_speedIdx : (raise .cmderr s).status.speedIdx = s.status.speedIdx := rfl
@[simp] theorem raise_cmderr_status_swActive : (raise .cmderr s).status.swActive = s.status.swActive := rfl
@[simp] theorem raise_cmderr_status_ampReduced : (raise .cmderr s).status.ampReduced = s.status.ampReduced := rfl
@[simp] theorem raise_cmderr_status_activeSel : (raise .cmderr s).status.activeSel = s.status.activeSel := rfl
@[simp] theorem raise_cmderr_status_started : (raise .cmderr s).status.started = s.status.started := rfl
@[simp] theorem raise_cmderr_status_wdtArmed : (raise .cmderr s).status.wdtArmed = s.status.wdtArmed := rfl
@[simp] theorem raise_cmderr_curFreq : (raise .cmderr s).curFreq = s.curFreq := rfl
@[simp] theorem raise_cmderr_curAmp : (raise .cmderr s).curAmp = s.curAmp := rfl
@[simp] theorem raise_cmderr_curEn : (raise .cmderr s).curEn = s.curEn := rfl
@[simp] theorem raise_cmderr_sessionRt : (raise .cmderr s).sessionRt = s.sessionRt := rfl
@[simp] theorem raise_cmderr_totalRt : (raise .cmderr s).totalRt = s.totalRt := rfl
@[simp] theorem raise_cmderr_errStatus : (raise .cmderr s).errStatus = s.errStatus := rfl
@[simp] theorem raise_cmderr_errDisplayMs : (raise .cmderr s).errDisplayMs = s.errDisplayMs := rfl
@[simp] theorem raise_cmderr_timeMs : (raise .cmderr s).timeMs = s.timeMs := rfl
@[simp] theorem raise_cmderr_masterPhase : (raise .cmderr s).masterPhase = s.masterPhase := rfl
@[simp] theorem raise_cmderr_bufs : (raise .cmderr s).bufs = s.bufs := rfl
@[simp] theorem raise_cmderr_stateEpoch : (raise .cmderr s).stateEpoch = s.stateEpoch := rfl
@[simp] theorem raise_cmderr_pwmOutA : (raise .cmderr s).pwmOutA = s.pwmOutA := rfl
@[simp] theorem raise_cmderr_pwmOutB : (raise .cmderr s).pwmOutB = s.pwmOutB := rfl
@[simp] theorem raise_cmderr_tickCount : (raise .cmderr s).tickCount = s.tickCount := rfl
@[simp] theorem raise_cmderr_latches : (raise .cmderr s).latches = s.latches := rfl
@[simp] theorem raise_cmderr_misc : (raise .cmderr s).misc = s.misc := rfl
@[simp] theorem raise_cmderr_pitchRaw : (raise .cmderr s).pitchRaw = s.pitchRaw := rfl
@[simp] theorem raise_cmderr_ddsA : (raise .cmderr s).ddsA = s.ddsA := rfl
@[simp] theorem raise_cmderr_ddsB : (raise .cmderr s).ddsB = s.ddsB := rfl
@[simp] theorem raise_cmderr_filters : (raise .cmderr s).filters = s.filters := rfl
@[simp] theorem raise_cmderr_mem : (raise .cmderr s).mem = s.mem := rfl
@[simp] theorem raise_cmderr_cfg : (raise .cmderr s).cfg = s.cfg := rfl
@[simp] theorem raise_cmderr_profiles : (raise .cmderr s).profiles = s.profiles := rfl
@[simp] theorem raise_cmderr_schedule : (raise .cmderr s).schedule = s.schedule := rfl
@[simp] theorem raise_cmderr_choices : (raise .cmderr s).choices = s.choices := rfl
@[simp] theorem raise_cmderr_busData : (raise .cmderr s).busData = s.busData := rfl

/-! ## enter -/

@[simp] theorem enter_status_motor (m : MotorState) : (s.enter m).status.motor = m := rfl
@[simp] theorem enter_status_sysinit (m : MotorState) : (s.enter m).status.sysinit = s.status.sysinit := rfl
@[simp] theorem enter_status_pub (m : MotorState) : (s.enter m).status.pub = s.status.pub := rfl
@[simp] theorem enter_status_hasCrit (m : MotorState) : (s.enter m).status.hasCrit = s.status.hasCrit := rfl
@[simp] theorem enter_status_critMute (m : MotorState) : (s.enter m).status.critMute = s.status.critMute := rfl
@[simp] theorem enter_status_underrun (m : MotorState) : (s.enter m).status.underrun = s.status.underrun := rfl
@[simp] theorem enter_status_buserr (m : MotorState) : (s.enter m).status.buserr = s.status.buserr := rfl
@[simp] theorem enter_status_cmderr (m : MotorState) : (s.enter m).status.cmderr = s.status.cmderr := rfl
@[simp] theorem enter_status_speedIdx (m : MotorState) : (s.enter m).status.speedIdx = s.status.speedIdx := rfl
@[simp] theorem enter_status_swActive (m : MotorState) : (s.enter m).status.swActive = s.status.swActive := rfl
@[simp] theorem enter_status_ampReduced (m : MotorState) : (s.enter m).status.ampReduced = s.status.ampReduced := rfl
@[simp] theorem enter_status_activeSel (m : MotorState) : (s.enter m).status.activeSel = s.status.activeSel := rfl
@[simp] theorem enter_status_started (m : MotorState) : (s.enter m).status.started = s.status.started := rfl
@[simp] theorem enter_status_wdtArmed (m : MotorState) : (s.enter m).status.wdtArmed = s.status.wdtArmed := rfl
@[simp] theorem enter_curFreq (m : MotorState) : (s.enter m).curFreq = s.curFreq := rfl
@[simp] theorem enter_curAmp (m : MotorState) : (s.enter m).curAmp = s.curAmp := rfl
@[simp] theorem enter_curEn (m : MotorState) : (s.enter m).curEn = s.curEn := rfl
@[simp] theorem enter_sessionRt (m : MotorState) : (s.enter m).sessionRt = s.sessionRt := rfl
@[simp] theorem enter_totalRt (m : MotorState) : (s.enter m).totalRt = s.totalRt := rfl
@[simp] theorem enter_errStatus (m : MotorState) : (s.enter m).errStatus = s.errStatus := rfl
@[simp] theorem enter_errDisplayMs (m : MotorState) : (s.enter m).errDisplayMs = s.errDisplayMs := rfl
@[simp] theorem enter_timeMs (m : MotorState) : (s.enter m).timeMs = s.timeMs := rfl
@[simp] theorem enter_masterPhase (m : MotorState) : (s.enter m).masterPhase = s.masterPhase := rfl
@[simp] theorem enter_bufs (m : MotorState) : (s.enter m).bufs = s.bufs := rfl
@[simp] theorem enter_stateEpoch (m : MotorState) : (s.enter m).stateEpoch = s.timeMs := rfl
@[simp] theorem enter_pwmOutA (m : MotorState) : (s.enter m).pwmOutA = s.pwmOutA := rfl
@[simp] theorem enter_pwmOutB (m : MotorState) : (s.enter m).pwmOutB = s.pwmOutB := rfl
@[simp] theorem enter_tickCount (m : MotorState) : (s.enter m).tickCount = s.tickCount := rfl
@[simp] theorem enter_latches (m : MotorState) : (s.enter m).latches = s.latches := rfl
@[simp] theorem enter_misc (m : MotorState) : (s.enter m).misc = s.misc := rfl
@[simp] theorem enter_pitchRaw (m : MotorState) : (s.enter m).pitchRaw = s.pitchRaw := rfl
@[simp] theorem enter_ddsA (m : MotorState) : (s.enter m).ddsA = s.ddsA := rfl
@[simp] theorem enter_ddsB (m : MotorState) : (s.enter m).ddsB = s.ddsB := rfl
@[simp] theorem enter_filters (m : MotorState) : (s.enter m).filters = s.filters := rfl
@[simp] theorem enter_mem (m : MotorState) : (s.enter m).mem = s.mem := rfl
@[simp] theorem enter_cfg (m : MotorState) : (s.enter m).cfg = s.cfg := rfl
@[simp] theorem enter_profiles (m : MotorState) : (s.enter m).profiles = s.profiles := rfl
@[simp] theorem enter_schedule (m : MotorState) : (s.enter m).schedule = s.schedule := rfl
@[simp] theorem enter_choices (m : MotorState) : (s.enter m).choices = s.choices := rfl
@[simp] theorem enter_busData (m : MotorState) : (s.enter m).busData = s.busData := rfl

/-! ## filterReset -/

@[simp] theorem filterReset_status : (filterReset s).status = s.status := rfl
@[simp] theorem filterReset_curFreq : (filterReset s).curFreq = s.curFreq := rfl
@[simp] theorem filterReset_curAmp : (filterReset s).curAmp = s.curAmp := rfl
@[simp] theorem filterReset_curEn : (filterReset s).curEn = s.curEn := rfl
@[simp] theorem filterReset_sessionRt : (filterReset s).sessionRt = s.sessionRt := rfl
@[simp] theorem filterReset_totalRt : (filterReset s).totalRt = s.totalRt := rfl
@[simp] theorem filterReset_errStatus : (filterReset s).errStatus = s.errStatus := rfl
@[simp] theorem filterReset_errDisplayMs : (filterReset s).errDisplayMs = s.errDisplayMs := rfl
@[simp] theorem filterReset_timeMs : (filterReset s).timeMs = s.timeMs := rfl
@[simp] theorem filterReset_masterPhase : (filterReset s).masterPhase = s.masterPhase := rfl
@[simp] theorem filterReset_bufs : (filterReset s).bufs = s.bufs := rfl
@[simp] theorem filterReset_stateEpoch : (filterReset s).stateEpoch = s.stateEpoch := rfl
@[simp] theorem filterReset_pwmOutA : (filterReset s).pwmOutA = s.pwmOutA := rfl
@[simp] theorem filterReset_pwmOutB : (filterReset s).pwmOutB = s.pwmOutB := rfl
@[simp] theorem filterReset_tickCount : (filterReset s).tickCount = s.tickCount := rfl
@[simp] theorem filterReset_latches : (filterReset s).latches = s.latches := rfl
@[simp] theorem filterReset_misc : (filterReset s).misc = s.misc := rfl
@[simp] theorem filterReset_pitchRaw : (filterReset s).pitchRaw = s.pitchRaw := rfl
@[simp] theorem filterReset_ddsA : (filterReset s).ddsA = s.ddsA := rfl
@[simp] theorem filterReset_ddsB : (filterReset s).ddsB = s.ddsB := rfl
@[simp] theorem filterReset_filters : (filterReset s).filters = Vector.replicate 4 .zero := rfl
@[simp] theorem filterReset_mem : (filterReset s).mem = s.mem := rfl
@[simp] theorem filterReset_cfg : (filterReset s).cfg = s.cfg := rfl
@[simp] theorem filterReset_profiles : (filterReset s).profiles = s.profiles := rfl
@[simp] theorem filterReset_schedule : (filterReset s).schedule = s.schedule := rfl
@[simp] theorem filterReset_choices : (filterReset s).choices = s.choices := rfl
@[simp] theorem filterReset_busData : (filterReset s).busData = s.busData := rfl

/-! ## isr -/

@[simp] theorem isr_status (h : Half) : (isr h s).status = s.status := rfl
@[simp] theorem isr_curFreq (h : Half) : (isr h s).curFreq = s.curFreq := rfl
@[simp] theorem isr_curAmp (h : Half) : (isr h s).curAmp = s.curAmp := rfl
@[simp] theorem isr_curEn (h : Half) : (isr h s).curEn = s.curEn := rfl
@[simp] theorem isr_sessionRt (h : Half) : (isr h s).sessionRt = s.sessionRt := rfl
@[simp] theorem isr_totalRt (h : Half) : (isr h s).totalRt = s.totalRt := rfl
@[simp] theorem isr_errStatus (h : Half) : (isr h s).errStatus = s.errStatus := rfl
@[simp] theorem isr_errDisplayMs (h : Half) : (isr h s).errDisplayMs = s.errDisplayMs := rfl
@[simp] theorem isr_timeMs (h : Half) : (isr h s).timeMs = s.timeMs := rfl
@[simp] theorem isr_masterPhase (h : Half) : (isr h s).masterPhase = s.masterPhase := rfl
@[simp] theorem isr_bufs_ready (h : Half) : (isr h s).bufs.ready = s.bufs.ready := rfl
@[simp] theorem isr_bufs_free (h : Half) : (isr h s).bufs.free = s.bufs.free.set h true := rfl
@[simp] theorem isr_bufs_irq (h : Half) : (isr h s).bufs.irq = s.bufs.irq.set h false := rfl
@[simp] theorem isr_bufs_playHalf (h : Half) : (isr h s).bufs.playHalf = s.bufs.playHalf := rfl
@[simp] theorem isr_bufs_nextFill (h : Half) : (isr h s).bufs.nextFill = s.bufs.nextFill := rfl
@[simp] theorem isr_bufs_tickPos (h : Half) : (isr h s).bufs.tickPos = s.bufs.tickPos := rfl
@[simp] theorem isr_stateEpoch (h : Half) : (isr h s).stateEpoch = s.stateEpoch := rfl
@[simp] theorem isr_pwmOutA (h : Half) : (isr h s).pwmOutA = s.pwmOutA := rfl
@[simp] theorem isr_pwmOutB (h : Half) : (isr h s).pwmOutB = s.pwmOutB := rfl
@[simp] theorem isr_tickCount (h : Half) : (isr h s).tickCount = s.tickCount := rfl
@[simp] theorem isr_latches (h : Half) : (isr h s).latches = s.latches := rfl
@[simp] theorem isr_misc (h : Half) : (isr h s).misc = s.misc := rfl
@[simp] theorem isr_pitchRaw (h : Half) : (isr h s).pitchRaw = s.pitchRaw := rfl
@[simp] theorem isr_ddsA (h : Half) : (isr h s).ddsA = s.ddsA := rfl
@[simp] theorem isr_ddsB (h : Half) : (isr h s).ddsB = s.ddsB := rfl
@[simp] theorem isr_filters (h : Half) : (isr h s).filters = s.filters := rfl
@[simp] theorem isr_mem (h : Half) : (isr h s).mem = s.mem := rfl
@[simp] theorem isr_cfg (h : Half) : (isr h s).cfg = s.cfg := rfl
@[simp] theorem isr_profiles (h : Half) : (isr h s).profiles = s.profiles := rfl
@[simp] theorem isr_schedule (h : Half) : (isr h s).schedule = s.schedule := rfl
@[simp] theorem isr_choices (h : Half) : (isr h s).choices = s.choices := rfl
@[simp] theorem isr_busData (h : Half) : (isr h s).busData = s.busData := rfl

/-! ## doStart -/

@[simp] theorem doStart_status_motor : (doStart s).status.motor = .starting := rfl
@[simp] theorem doStart_status_sysinit : (doStart s).status.sysinit = s.status.sysinit := rfl
@[simp] theorem doStart_status_pub : (doStart s).status.pub = s.status.pub := rfl
@[simp] theorem doStart_status_hasCrit : (doStart s).status.hasCrit = s.status.hasCrit := rfl
@[simp] theorem doStart_status_critMute : (doStart s).status.critMute = s.status.critMute := rfl
@[simp] theorem doStart_status_underrun : (doStart s).status.underrun = s.status.underrun := rfl
@[simp] theorem doStart_status_buserr : (doStart s).status.buserr = s.status.buserr := rfl
@[simp] theorem doStart_status_cmderr : (doStart s).status.cmderr = s.status.cmderr := rfl
@[simp] theorem doStart_status_speedIdx : (doStart s).status.speedIdx = s.status.speedIdx := rfl
@[simp] theorem doStart_status_swActive : (doStart s).status.swActive = false := rfl
@[simp] theorem doStart_status_ampReduced : (doStart s).status.ampReduced = false := rfl
@[simp] theorem doStart_status_activeSel : (doStart s).status.activeSel = s.status.activeSel := rfl
@[simp] theorem doStart_status_started : (doStart s).status.started = s.status.started := rfl
@[simp] theorem doStart_status_wdtArmed : (doStart s).status.wdtArmed = s.status.wdtArmed := rfl
@[simp] theorem doStart_curFreq : (doStart s).curFreq = s.curFreq := rfl
@[simp] theorem doStart_curAmp : (doStart s).curAmp = s.curAmp := rfl
@[simp] theorem doStart_curEn : (doStart s).curEn = s.curEn := rfl
@[simp] theorem doStart_sessionRt : (doStart s).sessionRt = 0 := rfl
@[simp] theorem doStart_totalRt : (doStart s).totalRt = s.totalRt := rfl
@[simp] theorem doStart_errStatus : (doStart s).errStatus = s.errStatus := rfl
@[simp] theorem doStart_errDisplayMs : (doStart s).errDisplayMs = s.errDisplayMs := rfl
@[simp] theorem doStart_timeMs : (doStart s).timeMs = s.timeMs := rfl
@[simp] theorem doStart_masterPhase : (doStart s).masterPhase = s.masterPhase := rfl
@[simp] theorem doStart_bufs : (doStart s).bufs = s.bufs := rfl
@[simp] theorem doStart_stateEpoch : (doStart s).stateEpoch = s.timeMs := rfl
@[simp] theorem doStart_pwmOutA : (doStart s).pwmOutA = s.pwmOutA := rfl
@[simp] theorem doStart_pwmOutB : (doStart s).pwmOutB = s.pwmOutB := rfl
@[simp] theorem doStart_tickCount : (doStart s).tickCount = s.tickCount := rfl
@[simp] theorem doStart_latches_stTgt : (doStart s).latches.stTgt = u32 (targetFreq s s.status.speedIdx) := rfl
@[simp] theorem doStart_latches_stAmp : (doStart s).latches.stAmp = u32 (targetAmp s) := rfl
@[simp] theorem doStart_latches_stopA0 : (doStart s).latches.stopA0 = s.latches.stopA0 := rfl
@[simp] theorem doStart_latches_stopF0 : (doStart s).latches.stopF0 = s.latches.stopF0 := rfl
@[simp] theorem doStart_latches_stopTgt : (doStart s).latches.stopTgt = s.latches.stopTgt := rfl
@[simp] theorem doStart_latches_stopTamp : (doStart s).latches.stopTamp = s.latches.stopTamp := rfl
@[simp] theorem doStart_latches_swFrom : (doStart s).latches.swFrom = s.latches.swFrom := rfl
@[simp] theorem doStart_latches_swTo : (doStart s).latches.swTo = s.latches.swTo := rfl
@[simp] theorem doStart_latches_swEpoch : (doStart s).latches.swEpoch = s.latches.swEpoch := rfl
@[simp] theorem doStart_latches_redEpoch : (doStart s).latches.redEpoch = s.latches.redEpoch := rfl
@[simp] theorem doStart_latches_stairEpoch : (doStart s).latches.stairEpoch = s.latches.stairEpoch := rfl
@[simp] theorem doStart_latches_wdtFeed : (doStart s).latches.wdtFeed = s.latches.wdtFeed := rfl
@[simp] theorem doStart_latches_lastUpdate : (doStart s).latches.lastUpdate = s.latches.lastUpdate := rfl
@[simp] theorem doStart_latches_rtAcc : (doStart s).latches.rtAcc = 0 := rfl
@[simp] theorem doStart_misc_stSpeed : (doStart s).misc.stSpeed = s.status.speedIdx := rfl
@[simp] theorem doStart_misc_relayPrev : (doStart s).misc.relayPrev = s.misc.relayPrev := rfl
@[simp] theorem doStart_misc_graceDone : (doStart s).misc.graceDone = s.misc.graceDone := rfl
@[simp] theorem doStart_misc_relayN : (doStart s).misc.relayN = s.misc.relayN := rfl
@[simp] theorem doStart_pitchRaw : (doStart s).pitchRaw = s.pitchRaw := rfl
@[simp] theorem doStart_ddsA : (doStart s).ddsA = s.ddsA := rfl
@[simp] theorem doStart_ddsB : (doStart s).ddsB = s.ddsB := rfl
@[simp] theorem doStart_filters : (doStart s).filters = s.filters := rfl
@[simp] theorem doStart_mem : (doStart s).mem = s.mem := rfl
@[simp] theorem doStart_cfg : (doStart s).cfg = s.cfg := rfl
@[simp] theorem doStart_profiles : (doStart s).profiles = s.profiles := rfl
@[simp] theorem doStart_schedule : (doStart s).schedule = s.schedule := rfl
@[simp] theorem doStart_choices : (doStart s).choices = s.choices := rfl
@[simp] theorem doStart_busData : (doStart s).busData = s.busData := rfl

/-! ## restoreDefaults -/

@[simp] theorem restoreDefaults_status : (restoreDefaults s).status = s.status := rfl
@[simp] theorem restoreDefaults_curFreq : (restoreDefaults s).curFreq = s.curFreq := rfl
@[simp] theorem restoreDefaults_curAmp : (restoreDefaults s).curAmp = s.curAmp := rfl
@[simp] theorem restoreDefaults_curEn : (restoreDefaults s).curEn = s.curEn := rfl
@[simp] theorem restoreDefaults_sessionRt : (restoreDefaults s).sessionRt = s.sessionRt := rfl
@[simp] theorem restoreDefaults_totalRt : (restoreDefaults s).totalRt = s.totalRt := rfl
@[simp] theorem restoreDefaults_errStatus : (restoreDefaults s).errStatus = s.errStatus := rfl
@[simp] theorem restoreDefaults_errDisplayMs : (restoreDefaults s).errDisplayMs = s.errDisplayMs := rfl
@[simp] theorem restoreDefaults_timeMs : (restoreDefaults s).timeMs = s.timeMs := rfl
@[simp] theorem restoreDefaults_masterPhase : (restoreDefaults s).masterPhase = s.masterPhase := rfl
@[simp] theorem restoreDefaults_bufs : (restoreDefaults s).bufs = s.bufs := rfl
@[simp] theorem restoreDefaults_stateEpoch : (restoreDefaults s).stateEpoch = s.stateEpoch := rfl
@[simp] theorem restoreDefaults_pwmOutA : (restoreDefaults s).pwmOutA = s.pwmOutA := rfl
@[simp] theorem restoreDefaults_pwmOutB : (restoreDefaults s).pwmOutB = s.pwmOutB := rfl
@[simp] theorem restoreDefaults_tickCount : (restoreDefaults s).tickCount = s.tickCount := rfl
@[simp] theorem restoreDefaults_latches : (restoreDefaults s).latches = s.latches := rfl
@[simp] theorem restoreDefaults_misc : (restoreDefaults s).misc = s.misc := rfl
@[simp] theorem restoreDefaults_pitchRaw : (restoreDefaults s).pitchRaw = s.pitchRaw := rfl
@[simp] theorem restoreDefaults_ddsA : (restoreDefaults s).ddsA = s.ddsA := rfl
@[simp] theorem restoreDefaults_ddsB : (restoreDefaults s).ddsB = s.ddsB := rfl
@[simp] theorem restoreDefaults_filters : (restoreDefaults s).filters = s.filters := rfl
@[simp] theorem restoreDefaults_mem : (restoreDefaults s).mem = s.mem := rfl
@[simp] theorem restoreDefaults_cfg : (restoreDefaults s).cfg = .default := rfl
@[simp] theorem restoreDefaults_profiles : (restoreDefaults s).profiles = .default := rfl
@[simp] theorem restoreDefaults_schedule : (restoreDefaults s).schedule = s.schedule := rfl
@[simp] theorem restoreDefaults_choices : (restoreDefaults s).choices = s.choices := rfl
@[simp] theorem restoreDefaults_busData : (restoreDefaults s).busData = s.busData := rfl

/-! ## relayEval -/

@[simp] theorem relayEval_status : (relayEval s).status = s.status := rfl
@[simp] theorem relayEval_curFreq : (relayEval s).curFreq = s.curFreq := rfl
@[simp] theorem relayEval_curAmp : (relayEval s).curAmp = s.curAmp := rfl
@[simp] theorem relayEval_curEn : (relayEval s).curEn = s.curEn := rfl
@[simp] theorem relayEval_sessionRt : (relayEval s).sessionRt = s.sessionRt := rfl
@[simp] theorem relayEval_totalRt : (relayEval s).totalRt = s.totalRt := rfl
@[simp] theorem relayEval_errStatus : (relayEval s).errStatus = s.errStatus := rfl
@[simp] theorem relayEval_errDisplayMs : (relayEval s).errDisplayMs = s.errDisplayMs := rfl
@[simp] theorem relayEval_timeMs : (relayEval s).timeMs = s.timeMs := rfl
@[simp] theorem relayEval_masterPhase : (relayEval s).masterPhase = s.masterPhase := rfl
@[simp] theorem relayEval_bufs : (relayEval s).bufs = s.bufs := rfl
@[simp] theorem relayEval_stateEpoch : (relayEval s).stateEpoch = s.stateEpoch := rfl
@[simp] theorem relayEval_pwmOutA : (relayEval s).pwmOutA = s.pwmOutA := rfl
@[simp] theorem relayEval_pwmOutB : (relayEval s).pwmOutB = s.pwmOutB := rfl
@[simp] theorem relayEval_tickCount : (relayEval s).tickCount = s.tickCount := rfl
@[simp] theorem relayEval_latches_stTgt : (relayEval s).latches.stTgt = s.latches.stTgt := rfl
@[simp] theorem relayEval_latches_stAmp : (relayEval s).latches.stAmp = s.latches.stAmp := rfl
@[simp] theorem relayEval_latches_stopA0 : (relayEval s).latches.stopA0 = s.latches.stopA0 := rfl
@[simp] theorem relayEval_latches_stopF0 : (relayEval s).latches.stopF0 = s.latches.stopF0 := rfl
@[simp] theorem relayEval_latches_stopTgt : (relayEval s).latches.stopTgt = s.latches.stopTgt := rfl
@[simp] theorem relayEval_latches_stopTamp : (relayEval s).latches.stopTamp = s.latches.stopTamp := rfl
@[simp] theorem relayEval_latches_swFrom : (relayEval s).latches.swFrom = s.latches.swFrom := rfl
@[simp] theorem relayEval_latches_swTo : (relayEval s).latches.swTo = s.latches.swTo := rfl
@[simp] theorem relayEval_latches_swEpoch : (relayEval s).latches.swEpoch = s.latches.swEpoch := rfl
@[simp] theorem relayEval_latches_redEpoch : (relayEval s).latches.redEpoch = s.latches.redEpoch := rfl
@[simp] theorem relayEval_latches_wdtFeed : (relayEval s).latches.wdtFeed = s.latches.wdtFeed := rfl
@[simp] theorem relayEval_latches_lastUpdate : (relayEval s).latches.lastUpdate = s.latches.lastUpdate := rfl
@[simp] theorem relayEval_latches_rtAcc : (relayEval s).latches.rtAcc = s.latches.rtAcc := rfl
@[simp] theorem relayEval_misc_stSpeed : (relayEval s).misc.stSpeed = s.misc.stSpeed := rfl
@[simp] theorem relayEval_misc_relayPrev : (relayEval s).misc.relayPrev = relayDesired s := rfl
@[simp] theorem relayEval_misc_graceDone : (relayEval s).misc.graceDone = s.misc.graceDone := rfl
@[simp] theorem relayEval_pitchRaw : (relayEval s).pitchRaw = s.pitchRaw := rfl
@[simp] theorem relayEval_ddsA : (relayEval s).ddsA = s.ddsA := rfl
@[simp] theorem relayEval_ddsB : (relayEval s).ddsB = s.ddsB := rfl
@[simp] theorem relayEval_filters : (relayEval s).filters = s.filters := rfl
@[simp] theorem relayEval_mem : (relayEval s).mem = s.mem := rfl
@[simp] theorem relayEval_cfg : (relayEval s).cfg = s.cfg := rfl
@[simp] theorem relayEval_profiles : (relayEval s).profiles = s.profiles := rfl
@[simp] theorem relayEval_schedule : (relayEval s).schedule = s.schedule := rfl
@[simp] theorem relayEval_choices : (relayEval s).choices = s.choices := rfl
@[simp] theorem relayEval_busData : (relayEval s).busData = s.busData := rfl

/-! ## bookTime -/

@[simp] theorem bookTime_status : (bookTime s).status = s.status := rfl
@[simp] theorem bookTime_curFreq : (bookTime s).curFreq = s.curFreq := rfl
@[simp] theorem bookTime_curAmp : (bookTime s).curAmp = s.curAmp := rfl
@[simp] theorem bookTime_curEn : (bookTime s).curEn = s.curEn := rfl
@[simp] theorem bookTime_sessionRt : (bookTime s).sessionRt = s.sessionRt := rfl
@[simp] theorem bookTime_totalRt : (bookTime s).totalRt = s.totalRt := rfl
@[simp] theorem bookTime_errStatus : (bookTime s).errStatus = s.errStatus := rfl
@[simp] theorem bookTime_errDisplayMs : (bookTime s).errDisplayMs = s.errDisplayMs := rfl
@[simp] theorem bookTime_timeMs : (bookTime s).timeMs = s.timeMs := rfl
@[simp] theorem bookTime_masterPhase : (bookTime s).masterPhase = s.masterPhase := rfl
@[simp] theorem bookTime_bufs : (bookTime s).bufs = s.bufs := rfl
@[simp] theorem bookTime_stateEpoch : (bookTime s).stateEpoch = s.stateEpoch := rfl
@[simp] theorem bookTime_pwmOutA : (bookTime s).pwmOutA = s.pwmOutA := rfl
@[simp] theorem bookTime_pwmOutB : (bookTime s).pwmOutB = s.pwmOutB := rfl
@[simp] theorem bookTime_tickCount : (bookTime s).tickCount = s.tickCount := rfl
@[simp] theorem bookTime_latches_stTgt : (bookTime s).latches.stTgt = s.latches.stTgt := rfl
@[simp] theorem bookTime_latches_stAmp : (bookTime s).latches.stAmp = s.latches.stAmp := rfl
@[simp] theorem bookTime_latches_stopA0 : (bookTime s).latches.stopA0 = s.latches.stopA0 := rfl
@[simp] theorem bookTime_latches_stopF0 : (bookTime s).latches.stopF0 = s.latches.stopF0 := rfl
@[simp] theorem bookTime_latches_stopTgt : (bookTime s).latches.stopTgt = s.latches.stopTgt := rfl
@[simp] theorem bookTime_latches_stopTamp : (bookTime s).latches.stopTamp = s.latches.stopTamp := rfl
@[simp] theorem bookTime_latches_swFrom : (bookTime s).latches.swFrom = s.latches.swFrom := rfl
@[simp] theorem bookTime_latches_swTo : (bookTime s).latches.swTo = s.latches.swTo := rfl
@[simp] theorem bookTime_latches_swEpoch : (bookTime s).latches.swEpoch = s.latches.swEpoch := rfl
@[simp] theorem bookTime_latches_redEpoch : (bookTime s).latches.redEpoch = s.latches.redEpoch := rfl
@[simp] theorem bookTime_latches_stairEpoch : (bookTime s).latches.stairEpoch = s.latches.stairEpoch := rfl
@[simp] theorem bookTime_latches_wdtFeed : (bookTime s).latches.wdtFeed = s.timeMs := rfl
@[simp] theorem bookTime_latches_lastUpdate : (bookTime s).latches.lastUpdate = s.timeMs := rfl
@[simp] theorem bookTime_latches_rtAcc : (bookTime s).latches.rtAcc = s.latches.rtAcc := rfl
@[simp] theorem bookTime_misc_stSpeed : (bookTime s).misc.stSpeed = s.misc.stSpeed := rfl
@[simp] theorem bookTime_misc_relayPrev : (bookTime s).misc.relayPrev = s.misc.relayPrev := rfl
@[simp] theorem bookTime_misc_graceDone : (bookTime s).misc.graceDone = (s.misc.graceDone || decide (s.cfg.powerOnDelayMs.toNat ≤ s.timeMs.toNat)) := rfl
@[simp] theorem bookTime_misc_relayN : (bookTime s).misc.relayN = s.misc.relayN := rfl
@[simp] theorem bookTime_pitchRaw : (bookTime s).pitchRaw = s.pitchRaw := rfl
@[simp] theorem bookTime_ddsA : (bookTime s).ddsA = s.ddsA := rfl
@[simp] theorem bookTime_ddsB : (bookTime s).ddsB = s.ddsB := rfl
@[simp] theorem bookTime_filters : (bookTime s).filters = s.filters := rfl
@[simp] theorem bookTime_mem : (bookTime s).mem = s.mem := rfl
@[simp] theorem bookTime_cfg : (bookTime s).cfg = s.cfg := rfl
@[simp] theorem bookTime_profiles : (bookTime s).profiles = s.profiles := rfl
@[simp] theorem bookTime_schedule : (bookTime s).schedule = s.schedule := rfl
@[simp] theorem bookTime_choices : (bookTime s).choices = s.choices := rfl
@[simp] theorem bookTime_busData : (bookTime s).busData = s.busData := rfl

/-! ## countRuntime -/

@[simp] theorem countRuntime_status (dt : Nat) : (countRuntime dt s).status = s.status := rfl
@[simp] theorem countRuntime_curFreq (dt : Nat) : (countRuntime dt s).curFreq = s.curFreq := rfl
@[simp] theorem countRuntime_curAmp (dt : Nat) : (countRuntime dt s).curAmp = s.curAmp := rfl
@[simp] theorem countRuntime_curEn (dt : Nat) : (countRuntime dt s).curEn = s.curEn := rfl
@[simp] theorem countRuntime_errStatus (dt : Nat) : (countRuntime dt s).errStatus = s.errStatus := rfl
@[simp] theorem countRuntime_errDisplayMs (dt : Nat) : (countRuntime dt s).errDisplayMs = s.errDisplayMs := rfl
@[simp] theorem countRuntime_timeMs (dt : Nat) : (countRuntime dt s).timeMs = s.timeMs := rfl
@[simp] theorem countRuntime_masterPhase (dt : Nat) : (countRuntime dt s).masterPhase = s.masterPhase := rfl
@[simp] theorem countRuntime_bufs (dt : Nat) : (countRuntime dt s).bufs = s.bufs := rfl
@[simp] theorem countRuntime_stateEpoch (dt : Nat) : (countRuntime dt s).stateEpoch = s.stateEpoch := rfl
@[simp] theorem countRuntime_pwmOutA (dt : Nat) : (countRuntime dt s).pwmOutA = s.pwmOutA := rfl
@[simp] theorem countRuntime_pwmOutB (dt : Nat) : (countRuntime dt s).pwmOutB = s.pwmOutB := rfl
@[simp] theorem countRuntime_tickCount (dt : Nat) : (countRuntime dt s).tickCount = s.tickCount := rfl
@[simp] theorem countRuntime_latches_stTgt (dt : Nat) : (countRuntime dt s).latches.stTgt = s.latches.stTgt := rfl
@[simp] theorem countRuntime_latches_stAmp (dt : Nat) : (countRuntime dt s).latches.stAmp = s.latches.stAmp := rfl
@[simp] theorem countRuntime_latches_stopA0 (dt : Nat) : (countRuntime dt s).latches.stopA0 = s.latches.stopA0 := rfl
@[simp] theorem countRuntime_latches_stopF0 (dt : Nat) : (countRuntime dt s).latches.stopF0 = s.latches.stopF0 := rfl
@[simp] theorem countRuntime_latches_stopTgt (dt : Nat) : (countRuntime dt s).latches.stopTgt = s.latches.stopTgt := rfl
@[simp] theorem countRuntime_latches_stopTamp (dt : Nat) : (countRuntime dt s).latches.stopTamp = s.latches.stopTamp := rfl
@[simp] theorem countRuntime_latches_swFrom (dt : Nat) : (countRuntime dt s).latches.swFrom = s.latches.swFrom := rfl
@[simp] theorem countRuntime_latches_swTo (dt : Nat) : (countRuntime dt s).latches.swTo = s.latches.swTo := rfl
@[simp] theorem countRuntime_latches_swEpoch (dt : Nat) : (countRuntime dt s).latches.swEpoch = s.latches.swEpoch := rfl
@[simp] theorem countRuntime_latches_redEpoch (dt : Nat) : (countRuntime dt s).latches.redEpoch = s.latches.redEpoch := rfl
@[simp] theorem countRuntime_latches_stairEpoch (dt : Nat) : (countRuntime dt s).latches.stairEpoch = s.latches.stairEpoch := rfl
@[simp] theorem countRuntime_latches_wdtFeed (dt : Nat) : (countRuntime dt s).latches.wdtFeed = s.latches.wdtFeed := rfl
@[simp] theorem countRuntime_latches_lastUpdate (dt : Nat) : (countRuntime dt s).latches.lastUpdate = s.latches.lastUpdate := rfl
@[simp] theorem countRuntime_misc (dt : Nat) : (countRuntime dt s).misc = s.misc := rfl
@[simp] theorem countRuntime_pitchRaw (dt : Nat) : (countRuntime dt s).pitchRaw = s.pitchRaw := rfl
@[simp] theorem countRuntime_ddsA (dt : Nat) : (countRuntime dt s).ddsA = s.ddsA := rfl
@[simp] theorem countRuntime_ddsB (dt : Nat) : (countRuntime dt s).ddsB = s.ddsB := rfl
@[simp] theorem countRuntime_filters (dt : Nat) : (countRuntime dt s).filters = s.filters := rfl
@[simp] theorem countRuntime_mem (dt : Nat) : (countRuntime dt s).mem = s.mem := rfl
@[simp] theorem countRuntime_cfg (dt : Nat) : (countRuntime dt s).cfg = s.cfg := rfl
@[simp] theorem countRuntime_profiles (dt : Nat) : (countRuntime dt s).profiles = s.profiles := rfl
@[simp] theorem countRuntime_schedule (dt : Nat) : (countRuntime dt s).schedule = s.schedule := rfl
@[simp] theorem countRuntime_choices (dt : Nat) : (countRuntime dt s).choices = s.choices := rfl
@[simp] theorem countRuntime_busData (dt : Nat) : (countRuntime dt s).busData = s.busData := rfl

/-! ## enterRunning -/

@[simp] theorem enterRunning_status_motor : (enterRunning s).status.motor = .running := rfl
@[simp] theorem enterRunning_status_sysinit : (enterRunning s).status.sysinit = s.status.sysinit := rfl
@[simp] theorem enterRunning_status_pub : (enterRunning s).status.pub = s.status.pub := rfl
@[simp] theorem enterRunning_status_hasCrit : (enterRunning s).status.hasCrit = s.status.hasCrit := rfl
@[simp] theorem enterRunning_status_critMute : (enterRunning s).status.critMute = s.status.critMute := rfl
@[simp] theorem enterRunning_status_underrun : (enterRunning s).status.underrun = s.status.underrun := rfl
@[simp] theorem enterRunning_status_buserr : (enterRunning s).status.buserr = s.status.buserr := rfl
@[simp] theorem enterRunning_status_cmderr : (enterRunning s).status.cmderr = s.status.cmderr := rfl
@[simp] theorem enterRunning_status_speedIdx : (enterRunning s).status.speedIdx = s.status.speedIdx := rfl
@[simp] theorem enterRunning_status_swActive : (enterRunning s).status.swActive = s.status.swActive := rfl
@[simp] theorem enterRunning_status_ampReduced : (enterRunning s).status.ampReduced = false := rfl
@[simp] theorem enterRunning_status_activeSel : (enterRunning s).status.activeSel = s.status.activeSel := rfl
@[simp] theorem enterRunning_status_started : (enterRunning s).status.started = s.status.started := rfl
@[simp] theorem enterRunning_status_wdtArmed : (enterRunning s).status.wdtArmed = s.status.wdtArmed := rfl
@[simp] theorem enterRunning_curFreq : (enterRunning s).curFreq = s.curFreq := rfl
@[simp] theorem enterRunning_curAmp : (enterRunning s).curAmp = s.curAmp := rfl
@[simp] theorem enterRunning_curEn : (enterRunning s).curEn = s.curEn := rfl
@[simp] theorem enterRunning_sessionRt : (enterRunning s).sessionRt = s.sessionRt := rfl
@[simp] theorem enterRunning_totalRt : (enterRunning s).totalRt = s.totalRt := rfl
@[simp] theorem enterRunning_errStatus : (enterRunning s).errStatus = s.errStatus := rfl
@[simp] theorem enterRunning_errDisplayMs : (enterRunning s).errDisplayMs = s.errDisplayMs := rfl
@[simp] theorem enterRunning_timeMs : (enterRunning s).timeMs = s.timeMs := rfl
@[simp] theorem enterRunning_masterPhase : (enterRunning s).masterPhase = s.masterPhase := rfl
@[simp] theorem enterRunning_bufs : (enterRunning s).bufs = s.bufs := rfl
@[simp] theorem enterRunning_stateEpoch : (enterRunning s).stateEpoch = s.timeMs := rfl
@[simp] theorem enterRunning_pwmOutA : (enterRunning s).pwmOutA = s.pwmOutA := rfl
@[simp] theorem enterRunning_pwmOutB : (enterRunning s).pwmOutB = s.pwmOutB := rfl
@[simp] theorem enterRunning_tickCount : (enterRunning s).tickCount = s.tickCount := rfl
@[simp] theorem enterRunning_latches_stTgt : (enterRunning s).latches.stTgt = s.latches.stTgt := rfl
@[simp] theorem enterRunning_latches_stAmp : (enterRunning s).latches.stAmp = s.latches.stAmp := rfl
@[simp] theorem enterRunning_latches_stopA0 : (enterRunning s).latches.stopA0 = s.latches.stopA0 := rfl
@[simp] theorem enterRunning_latches_stopF0 : (enterRunning s).latches.stopF0 = s.latches.stopF0 := rfl
@[simp] theorem enterRunning_latches_stopTgt : (enterRunning s).latches.stopTgt = s.latches.stopTgt := rfl
@[simp] theorem enterRunning_latches_stopTamp : (enterRunning s).latches.stopTamp = s.latches.stopTamp := rfl
@[simp] theorem enterRunning_latches_swFrom : (enterRunning s).latches.swFrom = s.latches.swFrom := rfl
@[simp] theorem enterRunning_latches_swTo : (enterRunning s).latches.swTo = s.latches.swTo := rfl
@[simp] theorem enterRunning_latches_swEpoch : (enterRunning s).latches.swEpoch = s.latches.swEpoch := rfl
@[simp] theorem enterRunning_latches_redEpoch : (enterRunning s).latches.redEpoch = s.timeMs := rfl
@[simp] theorem enterRunning_latches_stairEpoch : (enterRunning s).latches.stairEpoch = s.latches.stairEpoch := rfl
@[simp] theorem enterRunning_latches_wdtFeed : (enterRunning s).latches.wdtFeed = s.latches.wdtFeed := rfl
@[simp] theorem enterRunning_latches_lastUpdate : (enterRunning s).latches.lastUpdate = s.latches.lastUpdate := rfl
@[simp] theorem enterRunning_latches_rtAcc : (enterRunning s).latches.rtAcc = s.latches.rtAcc := rfl
@[simp] theorem enterRunning_misc : (enterRunning s).misc = s.misc := rfl
@[simp] theorem enterRunning_pitchRaw : (enterRunning s).pitchRaw = s.pitchRaw := rfl
@[simp] theorem enterRunning_ddsA : (enterRunning s).ddsA = s.ddsA := rfl
@[simp] theorem enterRunning_ddsB : (enterRunning s).ddsB = s.ddsB := rfl
@[simp] theorem enterRunning_filters : (enterRunning s).filters = s.filters := rfl
@[simp] theorem enterRunning_mem : (enterRunning s).mem = s.mem := rfl
@[simp] theorem enterRunning_cfg : (enterRunning s).cfg = s.cfg := rfl
@[simp] theorem enterRunning_profiles : (enterRunning s).profiles = s.profiles := rfl
@[simp] theorem enterRunning_schedule : (enterRunning s).schedule = s.schedule := rfl
@[simp] theorem enterRunning_choices : (enterRunning s).choices = s.choices := rfl
@[simp] theorem enterRunning_busData : (enterRunning s).busData = s.busData := rfl

/-! ## writeStatusBus -/

@[simp] theorem writeStatusBus_status (d : Drive) : (writeStatusBus d s).status = s.status := rfl
@[simp] theorem writeStatusBus_curFreq (d : Drive) : (writeStatusBus d s).curFreq = u32 d.f := rfl
@[simp] theorem writeStatusBus_curAmp (d : Drive) : (writeStatusBus d s).curAmp = BitVec.ofInt 16 d.a := rfl
@[simp] theorem writeStatusBus_curEn (d : Drive) : (writeStatusBus d s).curEn = d.en := rfl
@[simp] theorem writeStatusBus_sessionRt (d : Drive) : (writeStatusBus d s).sessionRt = s.sessionRt := rfl
@[simp] theorem writeStatusBus_totalRt (d : Drive) : (writeStatusBus d s).totalRt = s.totalRt := rfl
@[simp] theorem writeStatusBus_errStatus (d : Drive) : (writeStatusBus d s).errStatus = s.errStatus := rfl
@[simp] theorem writeStatusBus_errDisplayMs (d : Drive) : (writeStatusBus d s).errDisplayMs = s.errDisplayMs := rfl
@[simp] theorem writeStatusBus_timeMs (d : Drive) : (writeStatusBus d s).timeMs = s.timeMs := rfl
@[simp] theorem writeStatusBus_masterPhase (d : Drive) : (writeStatusBus d s).masterPhase = s.masterPhase := rfl
@[simp] theorem writeStatusBus_bufs (d : Drive) : (writeStatusBus d s).bufs = s.bufs := rfl
@[simp] theorem writeStatusBus_stateEpoch (d : Drive) : (writeStatusBus d s).stateEpoch = s.stateEpoch := rfl
@[simp] theorem writeStatusBus_pwmOutA (d : Drive) : (writeStatusBus d s).pwmOutA = s.pwmOutA := rfl
@[simp] theorem writeStatusBus_pwmOutB (d : Drive) : (writeStatusBus d s).pwmOutB = s.pwmOutB := rfl
@[simp] theorem writeStatusBus_tickCount (d : Drive) : (writeStatusBus d s).tickCount = s.tickCount := rfl
@[simp] theorem writeStatusBus_latches (d : Drive) : (writeStatusBus d s).latches = s.latches := rfl
@[simp] theorem writeStatusBus_misc (d : Drive) : (writeStatusBus d s).misc = s.misc := rfl
@[simp] theorem writeStatusBus_pitchRaw (d : Drive) : (writeStatusBus d s).pitchRaw = s.pitchRaw := rfl
@[simp] theorem writeStatusBus_ddsA (d : Drive) : (writeStatusBus d s).ddsA = s.ddsA := rfl
@[simp] theorem writeStatusBus_ddsB (d : Drive) : (writeStatusBus d s).ddsB = s.ddsB := rfl
@[simp] theorem writeStatusBus_filters (d : Drive) : (writeStatusBus d s).filters = s.filters := rfl
@[simp] theorem writeStatusBus_mem (d : Drive) : (writeStatusBus d s).mem = s.mem := rfl
@[simp] theorem writeStatusBus_cfg (d : Drive) : (writeStatusBus d s).cfg = s.cfg := rfl
@[simp] theorem writeStatusBus_profiles (d : Drive) : (writeStatusBus d s).profiles = s.profiles := rfl
@[simp] theorem writeStatusBus_schedule (d : Drive) : (writeStatusBus d s).schedule = s.schedule := rfl
@[simp] theorem writeStatusBus_choices (d : Drive) : (writeStatusBus d s).choices = s.choices := rfl
@[simp] theorem writeStatusBus_busData (d : Drive) : (writeStatusBus d s).busData = s.busData := rfl

/-! ## recordError -/

@[simp] theorem recordError_status_motor (k : ErrorKind) (crit : Bool) : (recordError k crit s).status.motor = s.status.motor := rfl
@[simp] theorem recordError_status_sysinit (k : ErrorKind) (crit : Bool) : (recordError k crit s).status.sysinit = s.status.sysinit := rfl
@[simp] theorem recordError_status_pub (k : ErrorKind) (crit : Bool) : (recordError k crit s).status.pub = s.status.pub := rfl
@[simp] theorem recordError_status_hasCrit (k : ErrorKind) (crit : Bool) : (recordError k crit s).status.hasCrit = (s.status.hasCrit || crit) := rfl
@[simp] theorem recordError_status_critMute (k : ErrorKind) (crit : Bool) : (recordError k crit s).status.critMute = (s.status.critMute || crit) := rfl
@[simp] theorem recordError_status_underrun (k : ErrorKind) (crit : Bool) : (recordError k crit s).status.underrun = s.status.underrun := rfl
@[simp] theorem recordError_status_buserr (k : ErrorKind) (crit : Bool) : (recordError k crit s).status.buserr = s.status.buserr := rfl
@[simp] theorem recordError_status_cmderr (k : ErrorKind) (crit : Bool) : (recordError k crit s).status.cmderr = s.status.cmderr := rfl
@[simp] theorem recordError_status_speedIdx (k : ErrorKind) (crit : Bool) : (recordError k crit s).status.speedIdx = s.status.speedIdx := rfl
@[simp] theorem recordError_status_swActive (k : ErrorKind) (crit : Bool) : (recordError k crit s).status.swActive = s.status.swActive := rfl
@[simp] theorem recordError_status_ampReduced (k : ErrorKind) (crit : Bool) : (recordError k crit s).status.ampReduced = s.status.ampReduced := rfl
@[simp] theorem recordError_status_activeSel (k : ErrorKind) (crit : Bool) : (recordError k crit s).status.activeSel = s.status.activeSel := rfl
@[simp] theorem recordError_status_started (k : ErrorKind) (crit : Bool) : (recordError k crit s).status.started = s.status.started := rfl
@[simp] theorem recordError_status_wdtArmed (k : ErrorKind) (crit : Bool) : (recordError k crit s).status.wdtArmed = s.status.wdtArmed := rfl
@[simp] theorem recordError_curFreq (k : ErrorKind) (crit : Bool) : (recordError k crit s).curFreq = s.curFreq := rfl
@[simp] theorem recordError_curAmp (k : ErrorKind) (crit : Bool) : (recordError k crit s).curAmp = s.curAmp := rfl
@[simp] theorem recordError_curEn (k : ErrorKind) (crit : Bool) : (recordError k crit s).curEn = s.curEn := rfl
@[simp] theorem recordError_sessionRt (k : ErrorKind) (crit : Bool) : (recordError k crit s).sessionRt = s.sessionRt := rfl
@[simp] theorem recordError_totalRt (k : ErrorKind) (crit : Bool) : (recordError k crit s).totalRt = s.totalRt := rfl
@[simp] theorem recordError_errStatus (k : ErrorKind) (crit : Bool) : (recordError k crit s).errStatus = ⟨k, crit, true⟩ := rfl
@[simp] theorem recordError_errDisplayMs (k : ErrorKind) (crit : Bool) : (recordError k crit s).errDisplayMs = displayMs crit s.cfg := rfl
@[simp] theorem recordError_timeMs (k : ErrorKind) (crit : Bool) : (recordError k crit s).timeMs = s.timeMs := rfl
@[simp] theorem recordError_masterPhase (k : ErrorKind) (crit : Bool) : (recordError k crit s).masterPhase = s.masterPhase := rfl
@[simp] theorem recordError_bufs (k : ErrorKind) (crit : Bool) : (recordError k crit s).bufs = s.bufs := rfl
@[simp] theorem recordError_stateEpoch (k : ErrorKind) (crit : Bool) : (recordError k crit s).stateEpoch = s.stateEpoch := rfl
@[simp] theorem recordError_pwmOutA (k : ErrorKind) (crit : Bool) : (recordError k crit s).pwmOutA = s.pwmOutA := rfl
@[simp] theorem recordError_pwmOutB (k : ErrorKind) (crit : Bool) : (recordError k crit s).pwmOutB = s.pwmOutB := rfl
@[simp] theorem recordError_tickCount (k : ErrorKind) (crit : Bool) : (recordError k crit s).tickCount = s.tickCount := rfl
@[simp] theorem recordError_latches (k : ErrorKind) (crit : Bool) : (recordError k crit s).latches = s.latches := rfl
@[simp] theorem recordError_misc (k : ErrorKind) (crit : Bool) : (recordError k crit s).misc = s.misc := rfl
@[simp] theorem recordError_pitchRaw (k : ErrorKind) (crit : Bool) : (recordError k crit s).pitchRaw = s.pitchRaw := rfl
@[simp] theorem recordError_ddsA (k : ErrorKind) (crit : Bool) : (recordError k crit s).ddsA = s.ddsA := rfl
@[simp] theorem recordError_ddsB (k : ErrorKind) (crit : Bool) : (recordError k crit s).ddsB = s.ddsB := rfl
@[simp] theorem recordError_filters (k : ErrorKind) (crit : Bool) : (recordError k crit s).filters = s.filters := rfl
@[simp] theorem recordError_mem (k : ErrorKind) (crit : Bool) : (recordError k crit s).mem = s.mem := rfl
@[simp] theorem recordError_cfg (k : ErrorKind) (crit : Bool) : (recordError k crit s).cfg = s.cfg := rfl
@[simp] theorem recordError_profiles (k : ErrorKind) (crit : Bool) : (recordError k crit s).profiles = s.profiles := rfl
@[simp] theorem recordError_schedule (k : ErrorKind) (crit : Bool) : (recordError k crit s).schedule = s.schedule := rfl
@[simp] theorem recordError_choices (k : ErrorKind) (crit : Bool) : (recordError k crit s).choices = s.choices := rfl
@[simp] theorem recordError_busData (k : ErrorKind) (crit : Bool) : (recordError k crit s).busData = s.busData := rfl

/-! ## clk -/

@[simp] theorem clk_status : (clk s).status = s.status := rfl
@[simp] theorem clk_curFreq : (clk s).curFreq = s.curFreq := rfl
@[simp] theorem clk_curAmp : (clk s).curAmp = s.curAmp := rfl
@[simp] theorem clk_curEn : (clk s).curEn = s.curEn := rfl
@[simp] theorem clk_sessionRt : (clk s).sessionRt = s.sessionRt := rfl
@[simp] theorem clk_totalRt : (clk s).totalRt = s.totalRt := rfl
@[simp] theorem clk_errStatus : (clk s).errStatus = s.errStatus := rfl
@[simp] theorem clk_errDisplayMs : (clk s).errDisplayMs = s.errDisplayMs := rfl
@[simp] theorem clk_timeMs : (clk s).timeMs = s.timeMs + 1 := rfl
@[simp] theorem clk_masterPhase : (clk s).masterPhase = s.masterPhase := rfl
@[simp] theorem clk_bufs : (clk s).bufs = s.bufs := rfl
@[simp] theorem clk_stateEpoch : (clk s).stateEpoch = s.stateEpoch := rfl
@[simp] theorem clk_pwmOutA : (clk s).pwmOutA = s.pwmOutA := rfl
@[simp] theorem clk_pwmOutB : (clk s).pwmOutB = s.pwmOutB := rfl
@[simp] theorem clk_tickCount : (clk s).tickCount = s.tickCount := rfl
@[simp] theorem clk_latches : (clk s).latches = s.latches := rfl
@[simp] theorem clk_misc : (clk s).misc = s.misc := rfl
@[simp] theorem clk_pitchRaw : (clk s).pitchRaw = s.pitchRaw := rfl
@[simp] theorem clk_ddsA : (clk s).ddsA = s.ddsA := rfl
@[simp] theorem clk_ddsB : (clk s).ddsB = s.ddsB := rfl
@[simp] theorem clk_filters : (clk s).filters = s.filters := rfl
@[simp] theorem clk_mem : (clk s).mem = s.mem := rfl
@[simp] theorem clk_cfg : (clk s).cfg = s.cfg := rfl
@[simp] theorem clk_profiles : (clk s).profiles = s.profiles := rfl
@[simp] theorem clk_schedule : (clk s).schedule = s.schedule := rfl
@[simp] theorem clk_choices : (clk s).choices = s.choices := rfl
@[simp] theorem clk_busData : (clk s).busData = s.busData := rfl

/-! ## withFetchWord -/

@[simp] theorem withFetchWord_status (nbits w : Nat) : (s.withFetchWord nbits w).status = s.status := rfl
@[simp] theorem withFetchWord_curFreq (nbits w : Nat) : (s.withFetchWord nbits w).curFreq = s.curFreq := rfl
@[simp] theorem withFetchWord_curAmp (nbits w : Nat) : (s.withFetchWord nbits w).curAmp = s.curAmp := rfl
@[simp] theorem withFetchWord_curEn (nbits w : Nat) : (s.withFetchWord nbits w).curEn = s.curEn := rfl
@[simp] theorem withFetchWord_sessionRt (nbits w : Nat) : (s.withFetchWord nbits w).sessionRt = s.sessionRt := rfl
@[simp] theorem withFetchWord_totalRt (nbits w : Nat) : (s.withFetchWord nbits w).totalRt = s.totalRt := rfl
@[simp] theorem withFetchWord_errStatus (nbits w : Nat) : (s.withFetchWord nbits w).errStatus = s.errStatus := rfl
@[simp] theorem withFetchWord_errDisplayMs (nbits w : Nat) : (s.withFetchWord nbits w).errDisplayMs = s.errDisplayMs := rfl
@[simp] theorem withFetchWord_timeMs (nbits w : Nat) : (s.withFetchWord nbits w).timeMs = s.timeMs := rfl
@[simp] theorem withFetchWord_masterPhase (nbits w : Nat) : (s.withFetchWord nbits w).masterPhase = s.masterPhase := rfl
@[simp] theorem withFetchWord_bufs (nbits w : Nat) : (s.withFetchWord nbits w).bufs = s.bufs := rfl
@[simp] theorem withFetchWord_stateEpoch (nbits w : Nat) : (s.withFetchWord nbits w).stateEpoch = s.stateEpoch := rfl
@[simp] theorem withFetchWord_pwmOutA (nbits w : Nat) : (s.withFetchWord nbits w).pwmOutA = s.pwmOutA := rfl
@[simp] theorem withFetchWord_pwmOutB (nbits w : Nat) : (s.withFetchWord nbits w).pwmOutB = s.pwmOutB := rfl
@[simp] theorem withFetchWord_tickCount (nbits w : Nat) : (s.withFetchWord nbits w).tickCount = s.tickCount := rfl
@[simp] theorem withFetchWord_latches (nbits w : Nat) : (s.withFetchWord nbits w).latches = s.latches := rfl
@[simp] theorem withFetchWord_misc (nbits w : Nat) : (s.withFetchWord nbits w).misc = s.misc := rfl
@[simp] theorem withFetchWord_pitchRaw (nbits w : Nat) : (s.withFetchWord nbits w).pitchRaw = s.pitchRaw := rfl
@[simp] theorem withFetchWord_ddsA (nbits w : Nat) : (s.withFetchWord nbits w).ddsA = s.ddsA := rfl
@[simp] theorem withFetchWord_ddsB (nbits w : Nat) : (s.withFetchWord nbits w).ddsB = s.ddsB := rfl
@[simp] theorem withFetchWord_filters (nbits w : Nat) : (s.withFetchWord nbits w).filters = s.filters := rfl
@[simp] theorem withFetchWord_mem (nbits w : Nat) : (s.withFetchWord nbits w).mem = s.mem := rfl
@[simp] theorem withFetchWord_cfg (nbits w : Nat) : (s.withFetchWord nbits w).cfg = s.cfg := rfl
@[simp] theorem withFetchWord_profiles (nbits w : Nat) : (s.withFetchWord nbits w).profiles = s.profiles := rfl
@[simp] theorem withFetchWord_schedule (nbits w : Nat) : (s.withFetchWord nbits w).schedule = .hostWrite 0x004 4 (BitVec.ofNat 32 (w % 2 ^ nbits)) :: s.schedule := rfl
@[simp] theorem withFetchWord_choices (nbits w : Nat) : (s.withFetchWord nbits w).choices = s.choices := rfl
@[simp] theorem withFetchWord_busData (nbits w : Nat) : (s.withFetchWord nbits w).busData = s.busData := rfl

end Sys2Proof.Machine
end

