-- ==== Sys2Proof/Laws/Commands.lean ====
section
/-!
SUPPORT. What each shared sub-step of the commands can do (spec/42_motor_commands.md R600 to R623,
spec/43_motor_update.md R700 to R762), said once: the relay evaluation, the gating of commands 0x02 to
0x0A, the speed change, the publication, and the body of each command.
-/

namespace Sys2Proof.Machine

open Sys2Proof

/-! ## Relay evaluation (R760) -/

@[simp] theorem relayDesired_relayEval (s : State) : relayDesired (relayEval s) = relayDesired s := rfl

theorem relayDesired_iff (s : State) : relayDesired s = true ↔ MuteRelaysDesired s := by
  unfold relayDesired MuteRelaysDesired MotorState.acting
  cases s.misc.graceDone <;> cases s.status.critMute <;> cases s.cfg.linkStartstop <;>
    cases s.cfg.linkStandby <;> cases s.status.motor <;> decide

/-- What a relay evaluation at the end of a command from `s` leaves: it reads the desire from the state it
runs in and the earlier evaluation from what the command left alone. -/
theorem relayEval_relayEvaluated (s t : State) (hp : t.misc.relayPrev = s.misc.relayPrev)
    (hn : t.misc.relayN = s.misc.relayN) (he : t.latches.stairEpoch = s.latches.stairEpoch) :
    RelayEvaluated s (relayEval t) := by
  unfold RelayEvaluated
  rw [← relayDesired_iff, relayDesired_relayEval, Bool.not_eq_true]
  refine ⟨Iff.rfl, fun h => ?_, fun h h' => ?_, fun h h' => ?_⟩ <;> simp_all [relayEval, State.elapsed]

/-- The relay evaluation writes the three relay fields and nothing else. -/
theorem relayEval_restored (s : State) :
    { relayEval s with
      latches := { (relayEval s).latches with stairEpoch := s.latches.stairEpoch }
      misc := { (relayEval s).misc with relayPrev := s.misc.relayPrev, relayN := s.misc.relayN } } = s := rfl

/-- The staircase counts at most PHASE_MODE relays. -/
theorem relayN_relayEval_le (s : State) : (relayEval s).misc.relayN.toNat ≤ s.cfg.phaseMode.toNat := by
  simp only [relayEval]
  rw [BitVec.toNat_ofNat]
  refine (Nat.mod_le _ _).trans ?_
  split <;> omega

/-! ## Gating (R600) -/

theorem gated_of_sysinit {body : State → State} {s : State} (h : s.status.sysinit = true) :
    gated body s = .next (relayEval (body s)) := by simp [gated, h]

theorem gated_of_not_sysinit {body : State → State} {s : State} (h : s.status.sysinit = false) :
    gated body s = .next s := by simp [gated, h]

/-- A gated command always answers a next state: the state itself or the evaluated body. -/
theorem gated_cases {body : State → State} {s : State} {t : State} (h : gated body s = .next t) :
    (s.status.sysinit = false ∧ t = s) ∨ (s.status.sysinit = true ∧ t = relayEval (body s)) := by
  cases hs : s.status.sysinit
  · rw [gated_of_not_sysinit hs] at h; cases h; exact .inl ⟨rfl, rfl⟩
  · rw [gated_of_sysinit hs] at h; cases h; exact .inr ⟨rfl, rfl⟩

/-! ## Shared sub-steps -/

/-- R619: the speed change keeps the state, or changes the speed and begins a switch ramp, or changes the speed
and ends any. -/
theorem changeSpeed_cases (n : Speed) (s : State) :
    (n = s.status.speedIdx ∧ changeSpeed n s = s)
      ∨ (n ≠ s.status.speedIdx ∧ s.status.motor = .running ∧ s.cfg.smoothSw = true
          ∧ changeSpeed n s =
            { s with
              status := { s.status with speedIdx := n, swActive := true }
              latches := { s.latches with
                swFrom := s.curFreq, swTo := u32 (targetFreq s n), swEpoch := s.timeMs } })
      ∨ (n ≠ s.status.speedIdx ∧ ¬(s.status.motor = .running ∧ s.cfg.smoothSw = true)
          ∧ changeSpeed n s = { s with
            status := { s.status with speedIdx := n, swActive := false } }) := by
  unfold changeSpeed
  by_cases h : n = s.status.speedIdx
  · exact .inl ⟨h, if_pos h⟩
  · by_cases h' : s.status.motor = .running ∧ s.cfg.smoothSw = true
    · exact .inr (.inl ⟨h, h'.1, h'.2, by rw [if_neg h, if_pos h']⟩)
    · exact .inr (.inr ⟨h, h', by rw [if_neg h, if_neg h']⟩)

/-- R752: publication keeps the state where the block equals PENDING, else stores it and sets PUB. -/
theorem publish_cases (b : DdsBlock) (s : State) :
    (b = s.pendingBlock ∧ publish b s = s)
      ∨ (b ≠ s.pendingBlock ∧ s.status.activeSel = true
          ∧ publish b s = { s with ddsA := b, status := { s.status with pub := true } })
      ∨ (b ≠ s.pendingBlock ∧ s.status.activeSel = false
          ∧ publish b s = { s with ddsB := b, status := { s.status with pub := true } }) := by
  unfold publish
  by_cases h : b = s.pendingBlock
  · exact .inl ⟨h, if_pos h⟩
  · rw [if_neg h]
    rcases setPending_cases s b with ⟨hs, e⟩ | ⟨hs, e⟩
    · exact .inr (.inl ⟨h, hs, by rw [e]⟩)
    · exact .inr (.inr ⟨h, hs, by rw [e]⟩)

@[simp] theorem publish_activeBlock (b : DdsBlock) (s : State) : (publish b s).activeBlock = s.activeBlock := by
  rcases publish_cases b s with ⟨_, e⟩ | ⟨_, h, e⟩ | ⟨_, h, e⟩ <;> rw [e] <;> simp [State.activeBlock, h]

@[simp] theorem publish_pendingBlock (b : DdsBlock) (s : State) : (publish b s).pendingBlock = b := by
  rcases publish_cases b s with ⟨h, e⟩ | ⟨_, h, e⟩ | ⟨_, h, e⟩ <;> rw [e]
  · exact h.symm
  all_goals simp [State.pendingBlock, h]

/-- R731: auto-standby keeps the state or enters Standby from Stopped. -/
theorem autoStandby_cases (s : State) :
    ((s.status.motor = .stopped ∧ 0 < s.cfg.autoStandbyMin.toNat
        ∧ s.cfg.autoStandbyMin.toNat * 60000 ≤ s.elapsed s.stateEpoch)
        ∧ autoStandby s = s.enter .standby)
      ∨ (¬(s.status.motor = .stopped ∧ 0 < s.cfg.autoStandbyMin.toNat
          ∧ s.cfg.autoStandbyMin.toNat * 60000 ≤ s.elapsed s.stateEpoch)
        ∧ autoStandby s = s) := by
  unfold autoStandby
  split
  · exact .inl ⟨‹_›, rfl⟩
  · exact .inr ⟨‹_›, rfl⟩

theorem evalState_of_standby (L : LutBits) {s : State} (h : s.status.motor = .standby) :
    evalState L s = evalIdle (targetFreq s s.status.speedIdx) s := by unfold evalState; rw [h]

theorem evalState_of_stopped (L : LutBits) {s : State} (h : s.status.motor = .stopped) :
    evalState L s = evalIdle (targetFreq s s.status.speedIdx) s := by unfold evalState; rw [h]

theorem evalState_of_starting (L : LutBits) {s : State} (h : s.status.motor = .starting) :
    evalState L s = evalStarting L s := by unfold evalState; rw [h]

theorem evalState_of_running (L : LutBits) {s : State} (h : s.status.motor = .running) :
    evalState L s = evalRunning (targetFreq s s.status.speedIdx) (targetAmp s) s := by
  unfold evalState; rw [h]

theorem evalState_of_stopping (L : LutBits) {s : State} (h : s.status.motor = .stopping) :
    evalState L s = evalStopping s := by unfold evalState; rw [h]

/-- R700: what the evaluation of a motor state makes of the state: one of the five states' own next
states, each an update of the named fields. -/
theorem evalState_cases (L : LutBits) (s : State) :
    (evalState L s).2 = s
      ∨ (s.status.motor = .stopped ∧ (evalState L s).2 = s.enter .standby)
      ∨ (s.status.motor = .starting ∧ (evalState L s).2 = enterRunning s)
      ∨ (s.status.motor = .running ∧ ∃ sw red, (evalState L s).2 =
          { s with status := { s.status with swActive := sw, ampReduced := red } })
      ∨ (s.status.motor = .stopping ∧ (evalState L s).2 = s.enter .stopped) := by
  rcases h : s.status.motor
  · rw [evalState_of_standby L h]
    rcases autoStandby_cases s with ⟨⟨h', -⟩, -⟩ | ⟨-, e⟩
    · rw [h] at h'; cases h'
    · exact .inl e
  · rw [evalState_of_stopped L h]
    rcases autoStandby_cases s with ⟨-, e⟩ | ⟨-, e⟩
    · exact .inr (.inl ⟨rfl, e⟩)
    · exact .inl e
  · rw [evalState_of_starting L h, evalStarting]
    dsimp only
    split
    · exact .inr (.inr (.inl ⟨rfl, rfl⟩))
    · exact .inl rfl
  · rw [evalState_of_running L h]
    exact .inr (.inr (.inr (.inl ⟨rfl, _, _, rfl⟩)))
  · rw [evalState_of_stopping L h, evalStopping]
    dsimp only
    split
    · exact .inr (.inr (.inr (.inr ⟨rfl, rfl⟩)))
    · exact .inl rfl

/-- R700: the part of UPDATE after the time is booked, on the state it is booked in. -/
theorem updateBody_of_not_running (L : LutBits) {s : State} (h : s.status.motor ≠ .running) :
    updateBody L s =
      let r := evalState L (bookTime s)
      writeStatusBus r.1 (publish (buildBlock r.2 r.1 (profileInUse r.2)) r.2) := by
  unfold updateBody; simp only [if_neg h]

/-- R700, R703: the same where the motor runs: the runtime is counted first. -/
theorem updateBody_of_running (L : LutBits) {s : State} (h : s.status.motor = .running) :
    updateBody L s =
      let r := evalState L (countRuntime (s.elapsed s.latches.lastUpdate) (bookTime s))
      writeStatusBus r.1 (publish (buildBlock r.2 r.1 (profileInUse r.2)) r.2) := by
  unfold updateBody; simp only [if_pos h]

/-! ## Bodies of the commands -/

/-- R611: the state INIT enters: the one it was in, Stopped, or Starting through Stopped. -/
theorem bootState_cases (s : State) :
    (s.cfg.autoBoot = false ∧ bootState s = s)
      ∨ (s.cfg.autoBoot = true ∧ s.cfg.autoStart = false ∧ bootState s = s.enter .stopped)
      ∨ (s.cfg.autoBoot = true ∧ s.cfg.autoStart = true ∧ bootState s = doStart (s.enter .stopped)) := by
  unfold bootState
  cases s.cfg.autoBoot <;> cases s.cfg.autoStart <;> simp

/-- R613: what START does in each state. -/
theorem startBody_cases (s : State) :
    (s.status.motor = .standby
        ∧ startBody s = doStart ({ s with status.critMute := false }.enter .stopped))
      ∨ (s.status.motor = .stopped ∧ startBody s = doStart { s with status.critMute := false })
      ∨ (¬(s.status.motor = .standby ∨ s.status.motor = .stopped)
        ∧ startBody s = { s with status.critMute := false }) := by
  cases h : s.status.motor <;> simp [startBody, h]

/-- R622: a report is rejected, recorded, or recorded with the defaults loaded. -/
theorem reportErrorBody_cases (kind : Nat) (crit : Bool) (s : State) :
    (5 ≤ kind ∧ reportErrorBody kind crit s = raise .cmderr s)
      ∨ ∃ k : ErrorKind, k.code = kind
          ∧ ((k ≠ .settingsCorrupt ∧ reportErrorBody kind crit s = relayEval (recordError k crit s))
            ∨ (k = .settingsCorrupt
              ∧ reportErrorBody kind crit s = relayEval (restoreDefaults (recordError k crit s)))) := by
  match kind with
  | 0 => exact .inr ⟨.systemFreeze, rfl, .inl ⟨by decide, rfl⟩⟩
  | 1 => exact .inr ⟨.motorStall, rfl, .inl ⟨by decide, rfl⟩⟩
  | 2 => exact .inr ⟨.settingsCorrupt, rfl, .inr ⟨rfl, rfl⟩⟩
  | 3 => exact .inr ⟨.i2cFailure, rfl, .inl ⟨by decide, rfl⟩⟩
  | 4 => exact .inr ⟨.outOfMemory, rfl, .inl ⟨by decide, rfl⟩⟩
  | n + 5 => exact .inl ⟨by omega, rfl⟩

/-- R618: SET_SPEED changes the speed to an accepted operand or raises CMDERR. -/
theorem setSpeedBody_cases (n : Nat) (s : State) :
    (∃ k : Speed, k.code = n ∧ (k = .rpm78 → s.cfg.en78 = true) ∧ setSpeedBody n s = changeSpeed k s)
      ∨ ((3 ≤ n ∨ (n = 2 ∧ s.cfg.en78 = false)) ∧ setSpeedBody n s = raise .cmderr s) := by
  match n with
  | 0 => exact .inl ⟨.rpm33, rfl, by simp, rfl⟩
  | 1 => exact .inl ⟨.rpm45, rfl, by simp, rfl⟩
  | 2 =>
    cases h : s.cfg.en78
    · exact .inr ⟨.inr ⟨rfl, rfl⟩, by simp [setSpeedBody, speedOperand, h]⟩
    · exact .inl ⟨.rpm78, rfl, by simp, by simp [setSpeedBody, speedOperand, h]⟩
  | n + 3 => exact .inr ⟨.inl (by omega), rfl⟩

end Sys2Proof.Machine
end

