-- ==== Sys2Proof/Laws/Engine.lean ====
section
/-!
SUPPORT. What the DDS engine's steps can do (spec/40_dds_engine.md R420 to R445): the run of ticks that
fills a half, where its words stand in buffer memory, and the cases of the swap, of the consumer's start
and of TICK, each said once.
-/

namespace Sys2Proof.Machine

open Sys2Proof

/-! ## A run of ticks (R430) -/

variable (L : LutBits) (tab : FirTable) (S : DdsBlock)

@[simp] theorem synthRun_zero_words (ph : Word) (fs : Vector ChanFilter 4) :
    (synthRun L tab S 0 ph fs).words = [] := rfl

/-- The first word of a run is its first tick's; the others are those of the run from the next phase. -/
theorem synthRun_succ (n : Nat) (ph : Word) (fs : Vector ChanFilter 4) :
    synthRun L tab S (n + 1) ph fs =
      let t := synthTick L tab S ph fs
      let rest := synthRun L tab S n (nextPhase S ph) (t.map (·.2))
      ⟨(packWord t[0].1 t[1].1, packWord t[2].1 t[3].1) :: rest.words, rest.phase, rest.filters⟩ := rfl

@[simp] theorem length_words_synthRun (n : Nat) (ph : Word) (fs : Vector ChanFilter 4) :
    (synthRun L tab S n ph fs).words.length = n := by
  induction n generalizing ph fs with
  | zero => rfl
  | succ n ih => rw [synthRun_succ]; simp [ih]

/-- R424: a run of an enabled block advances the master phase by one increment a tick. -/
theorem phase_synthRun_of_en (h : S.en = true) (n : Nat) (ph : Word) (fs : Vector ChanFilter 4) :
    (synthRun L tab S n ph fs).phase = ph + BitVec.ofNat 32 n * S.phaseInc := by
  induction n generalizing ph fs with
  | zero => simp [synthRun]
  | succ n ih =>
    rw [synthRun_succ]
    simp only [ih, nextPhase, h, if_true]
    rw [BitVec.ofNat_add, BitVec.add_mul, BitVec.add_assoc, BitVec.add_comm S.phaseInc]
    simp

/-- R424: a run of a disabled block keeps the master phase. -/
theorem phase_synthRun_of_not_en (h : S.en = false) (n : Nat) (ph : Word) (fs : Vector ChanFilter 4) :
    (synthRun L tab S n ph fs).phase = ph := by
  induction n generalizing ph fs with
  | zero => rfl
  | succ n ih => rw [synthRun_succ]; simp [ih, nextPhase, h]

/-- R421: a disabled block leaves a channel's filter state alone. -/
theorem synth_of_not_en (h : S.en = false) (c : Fin 4) (ph : Word) (ch : ChanFilter) :
    synth L tab S c ph ch = (512, ch) := by simp [synth, h]

/-- R421: a run of a disabled block keeps every filter state. -/
theorem filters_synthRun_of_not_en (h : S.en = false) (n : Nat) (ph : Word) (fs : Vector ChanFilter 4) :
    (synthRun L tab S n ph fs).filters = fs := by
  induction n generalizing ph fs with
  | zero => rfl
  | succ n ih =>
    rw [synthRun_succ]
    simp only [ih]
    ext c hc : 1
    simp [synthTick, synth_of_not_en L tab S h]

/-- Every word of a run is one tick's, at some phase and filter state of the run. -/
theorem mem_words_synthRun (n : Nat) (ph : Word) (fs : Vector ChanFilter 4) (w : Word × Word)
    (h : w ∈ (synthRun L tab S n ph fs).words) :
    ∃ ph' fs', w = (packWord (synthTick L tab S ph' fs')[0].1 (synthTick L tab S ph' fs')[1].1,
      packWord (synthTick L tab S ph' fs')[2].1 (synthTick L tab S ph' fs')[3].1) := by
  induction n generalizing ph fs with
  | zero => simp at h
  | succ n ih =>
    rw [synthRun_succ] at h
    rcases List.mem_cons.1 h with rfl | h
    · exact ⟨ph, fs, rfl⟩
    · exact ih _ _ h

/-- A property of filter states that every channel's tick keeps holds after a run. -/
theorem filters_synthRun_induct (P : ChanFilter → Prop)
    (hP : ∀ c ph ch, P ch → P (synth L tab S c ph ch).2) (n : Nat) (ph : Word)
    (fs : Vector ChanFilter 4) (h : ∀ c : Fin 4, P fs[c]) (c : Fin 4) :
    P (synthRun L tab S n ph fs).filters[c] := by
  induction n generalizing ph fs with
  | zero => exact h c
  | succ n ih =>
    rw [synthRun_succ]
    refine ih _ _ fun c => ?_
    simp only [synthTick, Fin.getElem_fin, Vector.getElem_map, Vector.getElem_ofFn]
    exact hP _ _ _ (h c)

/-- R424, R531: a channel's filter state after `j` ticks of a run from master phase `ph`, channel by channel. -/
def channelAfter (c : Fin 4) (ph : Word) (ch : ChanFilter) (j : Nat) : ChanFilter :=
  (List.range j).foldl
    (fun ch i => (filterStep tab S (scaledSample L S c (ph + BitVec.ofNat 32 i * S.phaseInc)) ch).2) ch

/-- R420: a channel's compare value at tick `j` of a run from master phase `ph`. -/
def channelValue (c : Fin 4) (ph : Word) (ch : ChanFilter) (j : Nat) : BitVec 10 :=
  compareValue (if S.pm.toNat ≤ c.val then 0 else
    (filterStep tab S (scaledSample L S c (ph + BitVec.ofNat 32 j * S.phaseInc))
      (channelAfter L tab S c ph ch j)).1)

@[simp] theorem channelAfter_zero (c : Fin 4) (ph : Word) (ch : ChanFilter) :
    channelAfter L tab S c ph ch 0 = ch := rfl

/-- One increment more in the start, one tick less. -/
theorem phase_shift (ph inc : Word) (j : Nat) :
    ph + inc + BitVec.ofNat 32 j * inc = ph + BitVec.ofNat 32 (j + 1) * inc := by
  rw [BitVec.ofNat_add, BitVec.add_mul, BitVec.add_assoc, BitVec.add_comm inc]
  simp

theorem channelAfter_succ (c : Fin 4) (ph : Word) (ch : ChanFilter) (j : Nat) :
    channelAfter L tab S c ph ch (j + 1) = channelAfter L tab S c (ph + S.phaseInc)
      (filterStep tab S (scaledSample L S c ph) ch).2 j := by
  unfold channelAfter
  rw [List.range_succ_eq_map, List.foldl_cons, List.foldl_map]
  simp only [phase_shift, Nat.succ_eq_add_one]
  simp

theorem channelValue_succ (c : Fin 4) (ph : Word) (ch : ChanFilter) (j : Nat) :
    channelValue L tab S c ph ch (j + 1) = channelValue L tab S c (ph + S.phaseInc)
      (filterStep tab S (scaledSample L S c ph) ch).2 j := by
  unfold channelValue; rw [channelAfter_succ, phase_shift]

/-- A part of a channel's filter state that no filter step changes is as before after any number of ticks. -/
theorem channelAfter_keeps {α : Type} (f : ChanFilter → α)
    (hf : ∀ x ch, f (filterStep tab S x ch).2 = f ch) (c : Fin 4) (ph : Word) (ch : ChanFilter) (n : Nat) :
    f (channelAfter L tab S c ph ch n) = f ch := by
  induction n generalizing ph ch with
  | zero => rfl
  | succ n ih => rw [channelAfter_succ, ih, hf]

/-- R531: a run of an enabled block leaves every channel's filter state as that channel's steps leave it. -/
theorem filters_synthRun_of_en (h : S.en = true) (n : Nat) (ph : Word) (fs : Vector ChanFilter 4)
    (c : Fin 4) : (synthRun L tab S n ph fs).filters[c] = channelAfter L tab S c ph fs[c] n := by
  induction n generalizing ph fs with
  | zero => rfl
  | succ n ih =>
    rw [synthRun_succ, channelAfter_succ]
    dsimp only
    rw [ih]
    simp only [nextPhase, h, if_true, synthTick, synth, Fin.getElem_fin, Vector.getElem_map,
      Vector.getElem_ofFn]

/-- R423, R424: word `j` of a run of an enabled block holds the four channels' values at tick `j`. -/
theorem words_synthRun_of_en (h : S.en = true) (n : Nat) (ph : Word) (fs : Vector ChanFilter 4) (j : Nat)
    (hj : j < n) : (synthRun L tab S n ph fs).words[j]? = some
      (packWord (channelValue L tab S 0 ph fs[0] j) (channelValue L tab S 1 ph fs[1] j),
        packWord (channelValue L tab S 2 ph fs[2] j) (channelValue L tab S 3 ph fs[3] j)) := by
  induction n generalizing ph fs j with
  | zero => omega
  | succ n ih =>
    rw [synthRun_succ]
    cases j with
    | zero =>
      simp only [List.getElem?_cons_zero, synthTick, Vector.getElem_ofFn, synth, h, if_true, channelValue]
      simp
    | succ j =>
      simp only [List.getElem?_cons_succ]
      rw [ih _ _ _ (by omega)]
      simp only [channelValue_succ]
      simp only [nextPhase, h, if_true, synthTick, synth, Fin.getElem_fin, Vector.getElem_map,
        Vector.getElem_ofFn]
      rfl

/-! ## Buffer words (R150) -/

/-- A buffer word is two compare values: every bit outside [9:0] and [25:16] is 0. -/
theorem packWord_and (a b : BitVec 10) : packWord a b &&& 0xFC00FC00#32 = 0 := by
  apply BitVec.eq_of_getLsbD_eq
  intro i hi
  simp only [packWord, BitVec.getLsbD_and, BitVec.getLsbD_or, BitVec.getLsbD_shiftLeft,
    BitVec.getLsbD_setWidth]
  interval_cases i <;> simp

/-- R420: the last step of a channel, as a number. -/
theorem toNat_compareValue (y : Int) : (compareValue y).toNat = (min (max (y + 512) 0) 1023).toNat := by
  unfold compareValue clamp
  rw [BitVec.toNat_ofInt]
  simp only [Config.dcOffset, Config.ccMax]
  omega

/-- A buffer word as a number: the even channel's value, and the odd one's 65536 times. -/
theorem toNat_packWord (a b : BitVec 10) : (packWord a b).toNat = a.toNat + 65536 * b.toNat := by
  have ha := a.isLt
  have hb := b.isLt
  have e : (b.setWidth 32 <<< 16).toNat = b.toNat <<< 16 := by
    have hb' : b.toNat % 2 ^ 32 = b.toNat := Nat.mod_eq_of_lt (by omega)
    rw [BitVec.toNat_shiftLeft, BitVec.toNat_setWidth, hb', Nat.shiftLeft_eq,
      Nat.mod_eq_of_lt (by omega)]
  rw [packWord, BitVec.toNat_or, e, BitVec.toNat_setWidth, Nat.mod_eq_of_lt (by omega),
    ← Nat.shiftLeft_add_eq_or_of_lt (by omega), Nat.shiftLeft_eq]
  omega

theorem bufAddr_eq (sl : Slice) (h : Half) (j : Nat) : bufAddr sl h j = bufAddr sl h 0 + 4 * j := rfl

/-- The four runs of a half and slice do not overlap. -/
theorem bufAddr_disjoint {sl sl' : Slice} {h h' : Half} (hne : sl ≠ sl' ∨ h ≠ h') {j : Nat} (hj : j < 256) :
    bufAddr sl h j + 4 ≤ bufAddr sl' h' 0 ∨ bufAddr sl' h' 256 ≤ bufAddr sl h j := by
  cases sl <;> cases sl' <;> cases h <;> cases h' <;> simp_all [bufAddr, Half.toNat] <;> omega

/-! ## Storing a half (R430) -/

theorem wf_storeHalf (m : Memory) (h : Half) (ws : List (Word × Word)) (hm : m.wf = true) :
    (storeHalf m h ws).wf = true :=
  Memory.wf_writeWords _ _ _ (Memory.wf_writeWords _ _ _ hm)

/-- Slice A's words of the stored half. -/
theorem readWord_storeHalf_a (m : Memory) (h : Half) (ws : List (Word × Word)) (hl : ws.length = 256)
    (j : Nat) (hj : j < 256) :
    (storeHalf m h ws).readWord (bufAddr .a h j) = (ws[j]'(by omega)).1 := by
  rw [storeHalf, Memory.readWord_writeWords_of_outside, bufAddr_eq .a h j,
    Memory.readWord_writeWords _ _ _ _ (by simp; omega), List.getElem_map]
  have := bufAddr_disjoint (sl := .a) (sl' := .b) (h := h) (h' := h) (.inl (by decide)) hj
  rw [List.length_map, hl, ← bufAddr_eq _ h]
  exact this

/-- Slice B's words of the stored half. -/
theorem readWord_storeHalf_b (m : Memory) (h : Half) (ws : List (Word × Word)) (hl : ws.length = 256)
    (j : Nat) (hj : j < 256) :
    (storeHalf m h ws).readWord (bufAddr .b h j) = (ws[j]'(by omega)).2 := by
  rw [storeHalf, bufAddr_eq .b h j, Memory.readWord_writeWords _ _ _ _ (by simp; omega), List.getElem_map]

/-- The other half's words are as before. -/
theorem readWord_storeHalf_of_ne (m : Memory) {h k : Half} (hk : k ≠ h) (ws : List (Word × Word))
    (hl : ws.length = 256) (sl : Slice) (j : Nat) (hj : j < 256) :
    (storeHalf m h ws).readWord (bufAddr sl k j) = m.readWord (bufAddr sl k j) := by
  rw [storeHalf, Memory.readWord_writeWords_of_outside, Memory.readWord_writeWords_of_outside]
  · have := bufAddr_disjoint (sl := sl) (sl' := .a) (h := k) (h' := h) (.inr hk) hj
    rwa [List.length_map, hl, ← bufAddr_eq _ h]
  · have := bufAddr_disjoint (sl := sl) (sl' := .b) (h := k) (h' := h) (.inr hk) hj
    rwa [List.length_map, hl, ← bufAddr_eq _ h]

/-- A byte outside both of the half's runs is as before. -/
theorem readByte_storeHalf_of_outside (m : Memory) (h : Half) (ws : List (Word × Word))
    (hl : ws.length = 256) (a : Nat) (ha : a < bufAddr .a h 0 ∨ bufAddr .a h 256 ≤ a)
    (hb : a < bufAddr .b h 0 ∨ bufAddr .b h 256 ≤ a) : (storeHalf m h ws).readByte a = m.readByte a := by
  rw [storeHalf, Memory.readByte_writeWords_of_outside, Memory.readByte_writeWords_of_outside]
  · rwa [List.length_map, hl, ← bufAddr_eq _ h]
  · rwa [List.length_map, hl, ← bufAddr_eq _ h]

/-! ## The engine's steps -/

/-- R431: the swap flips the selection, leaves both blocks equal to the pending one, clears PUB, and resets
the filters exactly where the kind changes. -/
theorem swap_eq (s : State) :
    swap s = { s with
      status := { s.status with activeSel := !s.status.activeSel, pub := false }
      ddsA := s.pendingBlock, ddsB := s.pendingBlock
      filters := if s.pendingBlock.kind = s.activeBlock.kind then s.filters
        else Vector.replicate 4 .zero } := by
  unfold swap
  dsimp only
  split
  · rfl
  · rfl

/-- R433: the start of the consumer happens exactly where it has not started and both halves are ready. -/
theorem startConsumer_cases (s : State) :
    ((s.status.started = false ∧ s.bufs.ready.h0 = true ∧ s.bufs.ready.h1 = true)
        ∧ startConsumer s = { s with
            status := { s.status with started := true }
            bufs := { s.bufs with playHalf := .h0, tickPos := 0, ready := ⟨false, true⟩ } })
      ∨ (¬(s.status.started = false ∧ s.bufs.ready.h0 = true ∧ s.bufs.ready.h1 = true)
        ∧ startConsumer s = s) := by
  unfold startConsumer
  cases h0 : s.status.started <;> cases h1 : s.bufs.ready.h0 <;> cases h2 : s.bufs.ready.h1 <;>
    simp [HalfFlags.set, h2]

/-- R430, R432: a REFILL fills its half from one block, the pending one where it is published, with the
filters reset where that block's kind differs from the old one's, and then may start the consumer. -/
theorem refill_eq (s : State) :
    ∃ S fs a b sel,
      S = (if s.status.pub = true then s.pendingBlock else s.activeBlock)
        ∧ fs = (if s.status.pub = true ∧ s.pendingBlock.kind ≠ s.activeBlock.kind then
            Vector.replicate 4 .zero else s.filters)
        ∧ a = (if s.status.pub = true then s.pendingBlock else s.ddsA)
        ∧ b = (if s.status.pub = true then s.pendingBlock else s.ddsB)
        ∧ sel = (s.status.activeSel ^^ s.status.pub)
        ∧ refill L tab s = startConsumer { s with
            status := { s.status with activeSel := sel, pub := false }
            ddsA := a, ddsB := b
            mem := storeHalf s.mem s.bufs.nextFill (synthRun L tab S 256 s.masterPhase fs).words
            masterPhase := (synthRun L tab S 256 s.masterPhase fs).phase
            filters := (synthRun L tab S 256 s.masterPhase fs).filters
            bufs := { s.bufs with
              free := s.bufs.free.set s.bufs.nextFill false
              ready := s.bufs.ready.set s.bufs.nextFill true, nextFill := s.bufs.nextFill.other } } := by
  cases hp : s.status.pub
  · refine ⟨s.activeBlock, s.filters, s.ddsA, s.ddsB, s.status.activeSel, by simp, by simp, by simp,
      by simp, by simp, ?_⟩
    unfold refill
    simp only [hp, Bool.false_eq_true, if_false]
    have hs : { s.status with pub := false } = s.status := by rw [← hp]
    rw [show { s.status with activeSel := s.status.activeSel, pub := false } = s.status from hs]
    rfl
  · refine ⟨s.pendingBlock, if s.pendingBlock.kind = s.activeBlock.kind then s.filters else
      Vector.replicate 4 .zero, s.pendingBlock, s.pendingBlock, !s.status.activeSel, by simp, ?_,
      by simp, by simp, by simp, ?_⟩
    · by_cases h : s.pendingBlock.kind = s.activeBlock.kind <;> simp [h]
    · unfold refill
      simp only [hp, if_true]
      rw [swap_eq]
      unfold fillHalf
      have hA : ∀ t : State, t.ddsA = s.pendingBlock → t.ddsB = s.pendingBlock →
          t.activeBlock = s.pendingBlock := fun t ha hb => by
        unfold State.activeBlock; rw [ha, hb]; exact ite_self _
      rw [hA _ rfl rfl]
      rfl

/-- What every REFILL leaves alone: a property of the states that differ only in what it may write, and whose
blocks are two of the old ones, holds after it. -/
theorem refill_induct (s : State) (P : State → Prop)
    (h : ∀ a b sel st m ph f bu, (a = s.ddsA ∨ a = s.ddsB) → (b = s.ddsA ∨ b = s.ddsB) →
      P { s with
        status := { s.status with activeSel := sel, pub := false, started := st }
        ddsA := a, ddsB := b, mem := m, masterPhase := ph, filters := f, bufs := bu }) :
    P (refill L tab s) := by
  obtain ⟨S, fs, a, b, sel, -, -, ha, hb, -, e⟩ := refill_eq L tab s
  have hab : (a = s.ddsA ∨ a = s.ddsB) ∧ (b = s.ddsA ∨ b = s.ddsB) := by
    rw [ha, hb]
    unfold State.pendingBlock
    cases s.status.pub <;> cases s.status.activeSel <;> simp
  rw [e]
  generalize synthRun L tab S 256 s.masterPhase fs = r
  unfold startConsumer
  split
  · exact h a b sel true _ _ _ _ hab.1 hab.2
  · exact h a b sel s.status.started _ _ _ _ hab.1 hab.2

/-- R440, R441: TICK plays one word of each slice and advances, or ends its half. -/
theorem tick_cases (s : State) :
    let played := { s with
      pwmOutA := bufWord s .a s.bufs.playHalf s.bufs.tickPos.val
      pwmOutB := bufWord s .b s.bufs.playHalf s.bufs.tickPos.val
      tickCount := s.tickCount + 1 }
    (s.bufs.tickPos.val < 255
        ∧ tick s = { played with bufs := { s.bufs with tickPos := s.bufs.tickPos + 1 } })
      ∨ (s.bufs.tickPos.val = 255 ∧ tick s = { played with
          status := { s.status with
            underrun := s.status.underrun || !s.bufs.ready.get s.bufs.playHalf.other }
          bufs := { s.bufs with
            irq := s.bufs.irq.set s.bufs.playHalf true, playHalf := s.bufs.playHalf.other, tickPos := 0
            ready := s.bufs.ready.set s.bufs.playHalf.other false } }) := by
  intro played
  have hlt := s.bufs.tickPos.isLt
  unfold tick
  by_cases h : s.bufs.tickPos.val + 1 = Config.bufTicks
  · refine .inr ⟨by simp only [Config.bufTicks] at h; omega, ?_⟩
    simp only [if_pos h, finishHalf]
    cases hr : s.bufs.ready.get s.bufs.playHalf.other
    · have hset : s.bufs.ready.set s.bufs.playHalf.other false = s.bufs.ready := by
        revert hr
        obtain ⟨r0, r1⟩ := s.bufs.ready
        cases s.bufs.playHalf <;> cases r0 <;> cases r1 <;> simp [HalfFlags.get, HalfFlags.set, Half.other]
      rw [hset]
      simp [raise, played]
    · simp [played]
  · refine .inl ⟨by simp only [Config.bufTicks] at h; omega, ?_⟩
    simp only [if_neg h]
    rfl

end Sys2Proof.Machine
end

