-- ==== Sys2Proof/Laws/PerInstr.lean ====
section
/-!
SUPPORT. Statements made of every command, one lemma per constructor: a well-formed command's operand
fits the 24 bits below its OPCODE, which is one of R303's (spec/30_encoding.md R300, R303, R311).
-/

namespace Sys2Proof.Laws.OperandFits

open Sys2Proof

/-- R300, R303: the operand fits its 24 bits and the OPCODE is not reserved. -/
def Statement (i : Instr) : Prop := i.wellFormed = true → i.operand < 2 ^ 24 ∧ i.opcode ≤ 0x0C

theorem nop : Statement .nop := fun _ => by decide

theorem init : Statement .init := fun _ => by decide

theorem update : Statement .update := fun _ => by decide

theorem start : Statement .start := fun _ => by decide

theorem stop : Statement .stop := fun _ => by decide

theorem toggleStandby : Statement .toggleStandby := fun _ => by decide

theorem wake : Statement .wake := fun _ => by decide

theorem cycleSpeed : Statement .cycleSpeed := fun _ => by decide

theorem setSpeed (speed : Nat) : Statement (.setSpeed speed) := fun h => by
  have h : speed ≤ 3 := of_decide_eq_true h
  exact ⟨by simp only [Instr.operand]; omega, by simp [Instr.opcode]⟩

theorem setPitch (pitch : Int) : Statement (.setPitch pitch) := fun _ =>
  ⟨by simp only [Instr.operand]; omega, by simp [Instr.opcode]⟩

theorem resetPitch : Statement .resetPitch := fun _ => by decide

theorem reportError (kind : Nat) (crit : Bool) : Statement (.reportError kind crit) := fun h => by
  have h : kind ≤ 7 := of_decide_eq_true h
  exact ⟨by simp only [Instr.operand]; split <;> omega, by simp [Instr.opcode]⟩

theorem loadDefaults : Statement .loadDefaults := fun _ => by decide

end Sys2Proof.Laws.OperandFits
end

