-- ==== Sys2Proof/Laws/Registers.lean ====
section
/-!
SUPPORT. What a bus access can do (spec/20_memory.md R202 to R206, spec/44_register_access.md R800 to R814):
which offsets hold a register, and the cases of a read and of a write, each said once.
-/

namespace Sys2Proof.Machine

open Sys2Proof

/-! ## The address map (R204, R180) -/

theorem legalAccess_iff (off n : Nat) : legalAccess off n = true ↔ n = 4 ∧ off % 4 = 0 ∧ off ≤ 0x1FFF := by
  simp [legalAccess]

/-- An aligned offset holds no register exactly where it is reserved. -/
theorem regAt_eq_none_iff {off : Nat} (h : off % 4 = 0) : regAt off = none ↔ reservedOffset off := by
  by_cases hlt : off < 0x2000
  · have key : ((List.range 0x800).all fun k => decide (regAt (4 * k) = none ↔
        ((0x114 ≤ 4 * k ∧ 4 * k ≤ 0x11F) ∨ (0x1A8 ≤ 4 * k ∧ 4 * k ≤ 0x1FF)
          ∨ (0x244 ≤ 4 * k ∧ 4 * k ≤ 0x2FF) ∨ (0x33C ≤ 4 * k ∧ 4 * k ≤ 0x33F)
          ∨ (0x37C ≤ 4 * k ∧ 4 * k ≤ 0x37F) ∨ (0x3BC ≤ 4 * k ∧ 4 * k ≤ 0xFFF)
          ∨ 0x2000 ≤ 4 * k))) = true := by decide +kernel
    have := List.all_eq_true.1 key (off / 4) (by simp; omega)
    have := of_decide_eq_true this
    rwa [show 4 * (off / 4) = off by omega] at this
  · refine ⟨fun _ => ?_, fun _ => ?_⟩
    · unfold reservedOffset; omega
    · unfold regAt
      simp only [show ¬off < 0x080 by omega, show ¬off < 0x100 by omega, show ¬off < 0x110 by omega,
        show ¬off < 0x114 by omega, show ¬off < 0x120 by omega, show ¬off < 0x1A0 by omega,
        show ¬off < 0x1A4 by omega, show ¬off < 0x1A8 by omega, show ¬off < 0x200 by omega,
        show ¬off < 0x244 by omega, show ¬off < 0x300 by omega, show ¬off < 0x3C0 by omega,
        show ¬off < 0x1000 by omega, hlt, if_false]

/-- A legal access at an offset that is not reserved reaches a register. -/
theorem readTarget_of_mapped {off : Nat} (h : off % 4 = 0) (hle : off ≤ 0x1FFF) (hr : ¬reservedOffset off) :
    ∃ r, readTarget off 4 = some r ∧ regAt off = some r := by
  rw [readTarget, if_pos ((legalAccess_iff off 4).2 ⟨rfl, h, hle⟩)]
  cases hreg : regAt off with
  | none => exact absurd ((regAt_eq_none_iff h).1 hreg) hr
  | some r => exact ⟨r, rfl, rfl⟩

/-- Any other access reaches none. -/
theorem readTarget_of_illegal {off n : Nat}
    (h : n ≠ 4 ∨ off % 4 ≠ 0 ∨ 0x1FFF < off ∨ reservedOffset off) : readTarget off n = none := by
  unfold readTarget
  by_cases hl : legalAccess off n = true
  · rw [if_pos hl]
    obtain ⟨hn, ha, hle⟩ := (legalAccess_iff off n).1 hl
    refine (regAt_eq_none_iff ha).2 ?_
    rcases h with h | h | h | h
    · exact absurd hn h
    · exact absurd ha h
    · omega
    · exact h
  · rw [if_neg hl]

/-- CMD stands at 0x004 alone. -/
theorem eq_of_readTarget_cmd {off n : Nat} (h : readTarget off n = some .cmd) : off = 0x004 ∧ n = 4 := by
  unfold readTarget at h
  split at h
  · next hl =>
    obtain ⟨hn, ha, hle⟩ := (legalAccess_iff off n).1 hl
    have key : ((List.range 0x800).all fun k => decide (regAt (4 * k) = some .cmd → 4 * k = 0x004)) = true := by
      decide +kernel
    have := of_decide_eq_true (List.all_eq_true.1 key (off / 4) (by simp; omega))
    rw [show 4 * (off / 4) = off by omega] at this
    exact ⟨this h, hn⟩
  · cases h

/-! ## Accesses -/

/-- R800: a read answers a register's value, or 0 with BUSERR. -/
theorem memRead_cases (off n : Nat) (s : State) :
    (∃ r, readTarget off n = some r ∧ memRead off n s = (readReg r s, s))
      ∨ (readTarget off n = none ∧ memRead off n s = (0, raise .buserr s)) := by
  unfold memRead
  cases h : readTarget off n with
  | none => exact .inr ⟨rfl, rfl⟩
  | some r => exact .inl ⟨r, rfl, rfl⟩

/-- R800: the HOST's read step changes what the HOST last read and, at most, sets BUSERR. -/
theorem hostRead_eq (off n : Nat) (s : State) :
    (hostRead off n s = { s with busData := (memRead off n s).1 })
      ∨ (hostRead off n s = { s with
          busData := 0, status := { s.status with buserr := true } }) := by
  unfold hostRead
  rcases memRead_cases off n s with ⟨r, -, e⟩ | ⟨-, e⟩ <;> rw [e]
  · exact .inl rfl
  · exact .inr rfl

/-- R801 without CMD: a write changes TOTAL_RT, one global configuration register, one profile, or nothing. -/
theorem writeReg_cases (r : Reg) (v : Word) (s : State) :
    (r = .totalRt ∧ writeReg r v s = { s with totalRt := v })
      ∨ (∃ g, r = .globalCfg g ∧ writeReg r v s = { s with cfg := writeGlobal g v s.cfg })
      ∨ (∃ k f, r = .profile k f ∧ writeReg r v s =
          { s with profiles := s.profiles.set k (writeProfile f v (s.profiles.get k)) })
      ∨ writeReg r v s = s := by
  cases r
  case totalRt => exact .inl ⟨rfl, rfl⟩
  case globalCfg g => exact .inr (.inl ⟨g, rfl, rfl⟩)
  case profile k f => exact .inr (.inr (.inl ⟨k, f, rfl, rfl⟩))
  all_goals exact .inr (.inr (.inr rfl))

/-- R801: a write raises BUSERR, executes a command word at CMD, or writes a register. -/
theorem memWrite_cases (off n : Nat) (v : Word) (s : State) :
    (readTarget off n = none ∧ memWrite off n v s = .next (raise .buserr s))
      ∨ (off = 0x004 ∧ n = 4 ∧ memWrite off n v s = execWord v s)
      ∨ ∃ r, readTarget off n = some r ∧ r ≠ .cmd ∧ memWrite off n v s = .next (writeReg r v s) := by
  unfold memWrite
  cases h : readTarget off n with
  | none => exact .inl ⟨rfl, rfl⟩
  | some r =>
    by_cases hr : r = .cmd
    · subst hr
      exact .inr (.inl ⟨(eq_of_readTarget_cmd h).1, (eq_of_readTarget_cmd h).2, rfl⟩)
    · refine .inr (.inr ⟨r, rfl, hr, ?_⟩)
      cases r <;> first | rfl | exact absurd rfl hr

/-- R600: executing a word is executing its command, or raising CMDERR for a reserved opcode. -/
theorem execWord_cases (w : Word) (s : State) :
    (∃ i, decode w = .ok i ∧ execWord w s = exec i s)
      ∨ (∃ e, decode w = .error e ∧ execWord w s = .next (raise .cmderr s)) := by
  unfold execWord
  cases h : decode w with
  | ok i => exact .inl ⟨i, rfl, rfl⟩
  | error e => exact .inr ⟨e, rfl, rfl⟩

/-- R810: a global configuration write leaves every other global register's value alone. -/
theorem readGlobal_writeGlobal_of_ne {g g' : GlobalReg} (h : g' ≠ g) (v : Word) (c : GlobalConfig) :
    readGlobal g' (writeGlobal g v c) = readGlobal g' c := by
  cases g <;> cases g' <;> first | rfl | exact absurd rfl h

/-- R811: a profile write leaves every other register of the profile alone. -/
theorem readProfile_writeProfile_of_ne {f f' : ProfileReg} (h : f' ≠ f) (v : Word) (p : SpeedProfile) :
    readProfile f' (writeProfile f v p) = readProfile f' p := by
  cases f <;> cases f' <;> first | rfl | exact absurd rfl h

end Sys2Proof.Machine
end

