-- ==== Sys2Proof/Laws/Step.lean ====
section
/-!
SUPPORT. What a step can do: the cases of `exec` (spec/42_motor_commands.md R600 to R624), of one agent's
step (spec/00_scope.md R6) and of the block's step (spec/60_exceptions.md R931), each said once. A proof
about every step starts from `step_cases`.
-/

namespace Sys2Proof.Machine

open Sys2Proof

/-! ## Commands -/

/-- The part of a command that runs before the relay evaluation, where one runs: which update of the state
each command makes. -/
theorem exec_cases {i : Instr} {s t : State} (h : exec i s = .next t) :
    t = s
      ∨ (i = .init ∧ s.status.sysinit = false ∧ t = relayEval (initBody s))
      ∨ (i = .update ∧ s.status.sysinit = true ∧ t = relayEval (updateBody Config.lutBits s))
      ∨ (i = .start ∧ s.status.sysinit = true ∧ t = relayEval (startBody s))
      ∨ (i = .stop ∧ s.status.sysinit = true ∧ t = relayEval (stopBody s))
      ∨ (i = .toggleStandby ∧ s.status.sysinit = true ∧ t = relayEval (toggleStandbyBody s))
      ∨ (i = .wake ∧ s.status.sysinit = true ∧ t = relayEval (wakeBody s))
      ∨ (∃ k, (i = .cycleSpeed ∨ ∃ n, i = .setSpeed n) ∧ s.status.sysinit = true
          ∧ t = relayEval (changeSpeed k s))
      ∨ ((∃ n, i = .setSpeed n) ∧ s.status.sysinit = true ∧ t = relayEval (raise .cmderr s))
      ∨ (∃ p : Int, (i = .resetPitch ∨ ∃ v, i = .setPitch v) ∧ -5000 ≤ p ∧ p ≤ 5000
          ∧ s.status.sysinit = true ∧ t = relayEval { s with pitchRaw := u32 p })
      ∨ (∃ k c, i = .reportError k c ∧ t = reportErrorBody k c s)
      ∨ (i = .loadDefaults ∧ t = relayEval (restoreDefaults s)) := by
  cases i with
  | nop => cases h; exact .inl rfl
  | init =>
    rw [exec, execInit] at h
    cases hs : s.status.sysinit <;> rw [hs] at h <;> cases h
    · exact .inr (.inl ⟨rfl, rfl, rfl⟩)
    · exact .inl rfl
  | update =>
    rcases gated_cases h with ⟨-, e⟩ | ⟨hs, e⟩
    · exact .inl e
    · exact .inr (.inr (.inl ⟨rfl, hs, e⟩))
  | start =>
    rcases gated_cases h with ⟨-, e⟩ | ⟨hs, e⟩
    · exact .inl e
    · exact .inr (.inr (.inr (.inl ⟨rfl, hs, e⟩)))
  | stop =>
    rcases gated_cases h with ⟨-, e⟩ | ⟨hs, e⟩
    · exact .inl e
    · exact .inr (.inr (.inr (.inr (.inl ⟨rfl, hs, e⟩))))
  | toggleStandby =>
    rcases gated_cases h with ⟨-, e⟩ | ⟨hs, e⟩
    · exact .inl e
    · exact .inr (.inr (.inr (.inr (.inr (.inl ⟨rfl, hs, e⟩)))))
  | wake =>
    rcases gated_cases h with ⟨-, e⟩ | ⟨hs, e⟩
    · exact .inl e
    · exact .inr (.inr (.inr (.inr (.inr (.inr (.inl ⟨rfl, hs, e⟩))))))
  | cycleSpeed =>
    rcases gated_cases h with ⟨-, e⟩ | ⟨hs, e⟩
    · exact .inl e
    · exact .inr (.inr (.inr (.inr (.inr (.inr (.inr (.inl ⟨_, .inl rfl, hs, e⟩)))))))
  | setSpeed n =>
    rcases gated_cases h with ⟨-, e⟩ | ⟨hs, e⟩
    · exact .inl e
    · rcases setSpeedBody_cases n s with ⟨k, -, -, e'⟩ | ⟨-, e'⟩ <;> rw [e'] at e
      · exact .inr (.inr (.inr (.inr (.inr (.inr (.inr (.inl ⟨k, .inr ⟨n, rfl⟩, hs, e⟩)))))))
      · exact .inr (.inr (.inr (.inr (.inr (.inr (.inr (.inr (.inl ⟨⟨n, rfl⟩, hs, e⟩))))))))
  | setPitch v =>
    rcases gated_cases (body := fun s => { s with pitchRaw := pitchOperand v }) h with ⟨-, e⟩ | ⟨hs, e⟩
    · exact .inl e
    · have hv := clamp_mem v (-5000) 5000 (by omega)
      exact .inr (.inr (.inr (.inr (.inr (.inr (.inr (.inr (.inr (.inl
        ⟨_, .inr ⟨v, rfl⟩, hv.1, hv.2, hs, e⟩)))))))))
  | resetPitch =>
    rcases gated_cases (body := fun s => { s with pitchRaw := 0 }) h with ⟨-, e⟩ | ⟨hs, e⟩
    · exact .inl e
    · exact .inr (.inr (.inr (.inr (.inr (.inr (.inr (.inr (.inr (.inl
        ⟨0, .inl rfl, by omega, by omega, hs, e⟩)))))))))
  | reportError k c =>
    cases h
    exact .inr (.inr (.inr (.inr (.inr (.inr (.inr (.inr (.inr (.inr (.inl ⟨k, c, rfl, rfl⟩))))))))))
  | loadDefaults =>
    cases h
    exact .inr (.inr (.inr (.inr (.inr (.inr (.inr (.inr (.inr (.inr (.inr ⟨rfl, rfl⟩))))))))))

/-- R306: every command answers a next state. -/
theorem exec_next (i : Instr) (s : State) : ∃ t, exec i s = .next t := by
  cases i <;> exact ⟨_, rfl⟩

/-! ## What no command writes -/

/-- Every field outside CTRL's reach is the same in both states. -/
def EngineKept (s t : State) : Prop :=
  t.bufs = s.bufs ∧ t.mem = s.mem ∧ t.filters = s.filters ∧ t.masterPhase = s.masterPhase
    ∧ t.pwmOutA = s.pwmOutA ∧ t.pwmOutB = s.pwmOutB ∧ t.tickCount = s.tickCount ∧ t.timeMs = s.timeMs
    ∧ t.status.activeSel = s.status.activeSel ∧ t.status.started = s.status.started
    ∧ t.status.underrun = s.status.underrun ∧ t.status.buserr = s.status.buserr
    ∧ t.schedule = s.schedule ∧ t.choices = s.choices ∧ t.busData = s.busData

theorem EngineKept.refl (s : State) : EngineKept s s :=
  ⟨rfl, rfl, rfl, rfl, rfl, rfl, rfl, rfl, rfl, rfl, rfl, rfl, rfl, rfl, rfl⟩

theorem EngineKept.trans {s t u : State} (h : EngineKept s t) (g : EngineKept t u) : EngineKept s u := by
  unfold EngineKept at *
  simp_all only [and_self]

theorem publish_engineKept (b : DdsBlock) (s : State) : EngineKept s (publish b s) := by
  rcases publish_cases b s with ⟨-, e⟩ | ⟨-, -, e⟩ | ⟨-, -, e⟩ <;> rw [e] <;> exact .refl s

theorem evalState_engineKept (L : LutBits) (s : State) : EngineKept s (evalState L s).2 := by
  rcases evalState_cases L s with e | ⟨-, e⟩ | ⟨-, e⟩ | ⟨-, _, _, e⟩ | ⟨-, e⟩ <;> rw [e] <;> exact .refl s

theorem updateBody_engineKept (L : LutBits) (s : State) : EngineKept s (updateBody L s) := by
  by_cases h : s.status.motor = .running
  · rw [updateBody_of_running L h]
    exact .trans (t := (evalState L (countRuntime (s.elapsed s.latches.lastUpdate) (bookTime s))).2)
      (evalState_engineKept L _) (publish_engineKept _ _)
  · rw [updateBody_of_not_running L h]
    exact .trans (t := (evalState L (bookTime s)).2) (evalState_engineKept L _) (publish_engineKept _ _)

theorem changeSpeed_engineKept (n : Speed) (s : State) : EngineKept s (changeSpeed n s) := by
  rcases changeSpeed_cases n s with ⟨-, e⟩ | ⟨-, -, -, e⟩ | ⟨-, -, e⟩ <;> rw [e] <;> exact .refl s

/-- No command writes the engine's state, the time, BUSERR or the environment's fields. -/
theorem exec_engineKept {i : Instr} {s t : State} (h : exec i s = .next t) : EngineKept s t := by
  rcases exec_cases h with e | ⟨-, -, e⟩ | ⟨-, -, e⟩ | ⟨-, -, e⟩ | ⟨-, -, e⟩ | ⟨-, -, e⟩ | ⟨-, -, e⟩
    | ⟨k, -, -, e⟩ | ⟨-, -, e⟩ | ⟨p, -, -, -, -, e⟩ | ⟨k, c, -, e⟩ | ⟨-, e⟩ <;> rw [e]
  · exact .refl s
  · rcases bootState_cases { s with status.speedIdx := bootSpeed s.cfg, pitchRaw := 0 }
      with ⟨-, e⟩ | ⟨-, -, e⟩ | ⟨-, -, e⟩ <;> unfold initBody <;> dsimp only <;> rw [e] <;> exact .refl s
  · exact updateBody_engineKept _ s
  · rcases startBody_cases s with ⟨-, e⟩ | ⟨-, e⟩ | ⟨-, e⟩ <;> rw [e] <;> exact .refl s
  · unfold stopBody
    split <;> exact .refl s
  · unfold toggleStandbyBody
    dsimp only
    split <;> exact .refl s
  · unfold wakeBody
    dsimp only
    split <;> exact .refl s
  · exact changeSpeed_engineKept k s
  · exact .refl s
  · exact .refl s
  · rcases reportErrorBody_cases k c s with ⟨-, e⟩ | ⟨_, -, ⟨-, e⟩ | ⟨-, e⟩⟩ <;> rw [e] <;> exact .refl s
  · exact .refl s

/-! ## One agent's step -/

/-- What one step of an agent that answers a next state can be. -/
theorem agentStep_cases {a : AgentStep} {s t : State} (h : agentStep a s = .next t) :
    (∃ off n, a = .hostRead off n ∧ t = hostRead off n s)
      ∨ (∃ off n v, a = .hostWrite off n v ∧ readTarget off n = none ∧ t = raise .buserr s)
      ∨ (∃ w i, a = .hostWrite 0x004 4 w ∧ decode w = .ok i ∧ exec i s = .next t)
      ∨ (∃ w e, a = .hostWrite 0x004 4 w ∧ decode w = .error e ∧ t = raise .cmderr s)
      ∨ (∃ off n v r, a = .hostWrite off n v ∧ readTarget off n = some r ∧ r ≠ .cmd ∧ t = writeReg r v s)
      ∨ (a = .refill ∧ refillEnabled s = true ∧ t = refill Config.lutBits Config.firCoeff s)
      ∨ (a = .tick ∧ tickEnabled s = true ∧ t = tick s)
      ∨ (∃ k, a = .isr k ∧ isrEnabled k s = true ∧ t = isr k s)
      ∨ (a = .clk ∧ t = clk s) := by
  cases a with
  | hostRead off n => cases h; exact .inl ⟨off, n, rfl, rfl⟩
  | hostWrite off n v =>
    refine .inr ?_
    rcases memWrite_cases off n v s with ⟨hr, e⟩ | ⟨rfl, rfl, e⟩ | ⟨r, hr, hne, e⟩
    · rw [agentStep, e] at h
      cases h
      exact .inl ⟨off, n, v, rfl, hr, rfl⟩
    · rw [agentStep, e] at h
      rcases execWord_cases v s with ⟨i, hi, e'⟩ | ⟨er, hi, e'⟩
      · exact .inr (.inl ⟨v, i, rfl, hi, e' ▸ h⟩)
      · rw [e'] at h
        cases h
        exact .inr (.inr (.inl ⟨v, er, rfl, hi, rfl⟩))
    · rw [agentStep, e] at h
      cases h
      exact .inr (.inr (.inr (.inl ⟨off, n, v, r, rfl, hr, hne, rfl⟩)))
  | refill =>
    rw [agentStep] at h
    split at h <;> cases h
    exact .inr (.inr (.inr (.inr (.inr (.inl ⟨rfl, ‹_›, rfl⟩)))))
  | tick =>
    rw [agentStep] at h
    split at h <;> cases h
    exact .inr (.inr (.inr (.inr (.inr (.inr (.inl ⟨rfl, ‹_›, rfl⟩))))))
  | isr k =>
    rw [agentStep] at h
    split at h <;> cases h
    exact .inr (.inr (.inr (.inr (.inr (.inr (.inr (.inl ⟨k, rfl, ‹_›, rfl⟩)))))))
  | clk => cases h; exact .inr (.inr (.inr (.inr (.inr (.inr (.inr (.inr ⟨rfl, rfl⟩)))))))

/-! ## The block's step -/

/-- R931, R6: a step is the watchdog's reset where it is due, and else the next agent's step on the state
with the schedule or the count of choices advanced. -/
theorem step_cases_next {s t : State} (h : step s = .next t) :
    (ResetDue s ∧ t = wdtReset s)
      ∨ (¬ResetDue s ∧ ∃ sch n, agentStep (nextAgentStep s) { s with schedule := sch, choices := n } = .next t) := by
  unfold step at h
  split at h
  · next hd => cases h; exact .inl ⟨(wdtDue_iff s).1 hd, rfl⟩
  · next hd =>
    refine .inr ⟨fun hr => hd ((wdtDue_iff s).2 hr), ?_⟩
    split at h
    · next a rest hs => exact ⟨rest, s.choices, by rw [nextAgentStep, hs]; exact h⟩
    · next hs =>
      have hn : nextAgentStep s = freeChoice s := by rw [nextAgentStep, hs]; rfl
      exact ⟨s.schedule, s.choices + 1, hn ▸ h⟩

/-- The same, where it does not matter whose step is next. -/
theorem step_cases {s t : State} (h : step s = .next t) :
    (wdtDue s = true ∧ t = wdtReset s)
      ∨ (wdtDue s = false ∧ ∃ a sch n, agentStep a { s with schedule := sch, choices := n } = .next t) := by
  rcases step_cases_next h with ⟨hd, e⟩ | ⟨hd, sch, n, e⟩
  · exact .inl ⟨(wdtDue_iff s).2 hd, e⟩
  · exact .inr ⟨Bool.eq_false_iff.2 fun h' => hd ((wdtDue_iff s).1 h'), _, sch, n, e⟩

/-- The step of a scheduled agent, where the watchdog is not due. -/
theorem step_of_schedule {s : State} {a : AgentStep} {rest : List AgentStep} (hd : wdtDue s = false)
    (hs : s.schedule = a :: rest) : step s = agentStep a { s with schedule := rest } := by
  unfold step
  rw [if_neg (by simp [hd]), hs]

end Sys2Proof.Machine
end

