-- ==== Sys2Proof/Laws/Update.lean ====
section
/-!
SUPPORT. What UPDATE leaves (spec/43_motor_update.md R700, R750 to R753, R760), said once for every motor
state: the four claims about UPDATE differ in the drive and in the state the evaluation makes.
-/

namespace Sys2Proof.Machine

open Sys2Proof

/-- The tail of UPDATE, from an evaluated state `u` that differs from `s` only in what the evaluation may
write, leaves what R751 to R753 and R760 say for the drive. -/
theorem updateLeaves_of_evaluated (s u : State) (d : Drive)
    (h : u = { s with
      stateEpoch := u.stateEpoch, sessionRt := u.sessionRt, totalRt := u.totalRt
      status := { s.status with
        motor := u.status.motor, swActive := u.status.swActive, ampReduced := u.status.ampReduced }
      latches := { s.latches with
        lastUpdate := s.timeMs, wdtFeed := s.timeMs, redEpoch := u.latches.redEpoch
        rtAcc := u.latches.rtAcc }
      misc := { s.misc with
        graceDone := s.misc.graceDone || decide (s.cfg.powerOnDelayMs.toNat ≤ s.timeMs.toNat) } }) :
    UpdateLeaves s (relayEval (writeStatusBus d (publish (buildBlock u d (profileInUse u)) u))) d.f d.a
      d.en := by
  generalize hb : buildBlock u d (profileInUse u) = b
  have hpb : (relayEval (writeStatusBus d (publish b u))).pendingBlock = b := publish_pendingBlock b u
  have hab : (relayEval (writeStatusBus d (publish b u))).activeBlock = u.activeBlock :=
    publish_activeBlock b u
  have hmot : (relayEval (writeStatusBus d (publish b u))).status.motor = u.status.motor := by
    rcases publish_cases b u with ⟨-, e⟩ | ⟨-, -, e⟩ | ⟨-, -, e⟩ <;> rw [e] <;> rfl
  have hpub : (relayEval (writeStatusBus d (publish b u))).status.pub
      = (u.status.pub || decide (b ≠ u.pendingBlock)) := by
    rw [relayEval_status, writeStatusBus_status]
    rcases publish_cases b u with ⟨h', e⟩ | ⟨h', -, e⟩ | ⟨h', -, e⟩ <;> rw [e] <;> simp [h']
  refine ⟨rfl, rfl, rfl, ?_, ?_, ?_, ?_, ?_, ?_, ?_, ?_, ?_⟩
  · have e1 : u.profiles = s.profiles := by rw [h]
    have e2 : u.misc.stSpeed = s.misc.stSpeed := by rw [h]
    have e3 : u.status.speedIdx = s.status.speedIdx := by rw [h]
    have e4 : u.cfg = s.cfg := by rw [h]
    rw [hpb, hmot, ← hb]
    unfold buildBlock profileInUse
    rw [e1, e2, e3, e4]
  · have e1 : u.status.pub = s.status.pub := by rw [h]
    have e2 : u.pendingBlock = s.pendingBlock := by rw [h]; rfl
    rw [hpub, hpb, e1, e2]
  · rw [hab, h]; rfl
  all_goals
    rcases publish_cases b u with ⟨-, e⟩ | ⟨-, -, e⟩ | ⟨-, -, e⟩ <;> rw [e, h] <;>
      first | rfl | exact relayEval_relayEvaluated _ _ rfl rfl rfl | exact fun _ => rfl

/-- UPDATE where the motor does not run: the evaluation of the state the time is booked in. -/
theorem exec_update_of_not_running {s : State} (hs : s.status.sysinit = true)
    (h : s.status.motor ≠ .running) {d : Drive} {u : State}
    (he : evalState Config.lutBits (bookTime s) = (d, u)) :
    exec .update s =
      .next (relayEval (writeStatusBus d (publish (buildBlock u d (profileInUse u)) u))) := by
  rw [exec, execUpdate, gated_of_sysinit hs, updateBody_of_not_running _ h, he]

/-- UPDATE where the motor runs: the evaluation after the runtime is counted. -/
theorem exec_update_of_running {s : State} (hs : s.status.sysinit = true)
    (h : s.status.motor = .running) {d : Drive} {u : State}
    (he : evalState Config.lutBits (countRuntime (s.elapsed s.latches.lastUpdate) (bookTime s)) = (d, u)) :
    exec .update s =
      .next (relayEval (writeStatusBus d (publish (buildBlock u d (profileInUse u)) u))) := by
  rw [exec, execUpdate, gated_of_sysinit hs, updateBody_of_running _ h, he]

end Sys2Proof.Machine
end

