-- ==== Sys2Proof/Laws/Wave.lean ====
section
/-!
SUPPORT. Facts of the sine table and its indexing (spec/40_dds_engine.md R400 to R402): the table's bound,
how entries of the five sizes share the largest table, and the ranges of a phase's index and fraction.
-/

namespace Sys2Proof.Machine

open Sys2Proof

/-- Every entry of the first quarter is in 0 to 511, by evaluation of all 4097. -/
theorem lutQuarter_mem {k : Nat} (hk : k ≤ 4096) : 0 ≤ lutQuarter k ∧ lutQuarter k ≤ 511 := by
  have key : ((List.range 4097).all fun k => decide (0 ≤ lutQuarter k ∧ lutQuarter k ≤ 511)) = true := by
    decide +kernel
  exact of_decide_eq_true (List.all_eq_true.1 key k (by simp; omega))

/-- Every entry of the largest table is within ±511. -/
theorem lutFull_mem (m : Nat) : -511 ≤ lutFull m ∧ lutFull m ≤ 511 := by
  unfold lutFull
  split
  · have := lutQuarter_mem (k := m) (by omega); omega
  · split
    · have := lutQuarter_mem (k := 8192 - m) (by omega); omega
    · split
      · have := lutQuarter_mem (k := m - 8192) (by omega); omega
      · have := lutQuarter_mem (k := 16384 - m) (by omega); omega

theorem lut_eq (L : LutBits) (i : Nat) : lut L i = lutFull (i * 2 ^ (14 - L.bits)) := rfl

/-- A table's entries stand `16384 / N` apart in the largest table. -/
theorem lutSize_mul (L : LutBits) : lutSize L * 2 ^ (14 - L.bits) = 16384 := by cases L <;> rfl

/-- A phase's table index is below the table's size. -/
theorem phaseIndex_lt (L : LutBits) (p : Word) : phaseIndex L p < lutSize L := by
  have := p.isLt
  cases L <;> simp only [phaseIndex, lutSize, LutBits.bits] <;> omega

/-- A phase's interpolation fraction is below 1024. -/
theorem phaseFrac_lt (L : LutBits) (p : Word) : phaseFrac L p < 1024 := by
  unfold phaseFrac; omega

theorem interp_eq (L : LutBits) (p : Word) :
    interp L p = lut L (phaseIndex L p) + floorDiv
      ((lut L ((phaseIndex L p + 1) % lutSize L) - lut L (phaseIndex L p)) * phaseFrac L p) 1024 := rfl

end Sys2Proof.Machine
end

