-- ==== Sys2Proof/Tests/Slice0.lean ====
section
/-!
SUPPORT. Tests of the model by its author, each about one step or one function, with expected values from
spec/95_test_vectors.md or by hand from the rule named; and, for every statement with hypotheses, a
concrete state and operands that meet them all together (`witness_<statement>`). A test on fixed values
is a check of the model, never a statement about it.
-/

namespace Sys2Proof.Tests

open Sys2Proof Sys2Proof.Machine

/-! ## Well-formedness: an ill-formed term for each check -/

theorem test_setSpeed_4_is_refused : (Instr.setSpeed 4).wellFormed = false := by decide
theorem test_setPitch_32768_is_refused : (Instr.setPitch 32768).wellFormed = false := by decide
theorem test_setPitch_below_is_refused : (Instr.setPitch (-32769)).wellFormed = false := by decide
theorem test_reportError_8_is_refused : (Instr.reportError 8 false).wellFormed = false := by decide
theorem test_rejected_values_are_wellFormed :
    (Instr.setSpeed 3).wellFormed = true ∧ (Instr.reportError 7 true).wellFormed = true := by decide

/-! ## Decoding of words written out from R300, R301 and R303 (vectors 2.1) -/

theorem test_decode_nop : decode 0x00000000 = .ok .nop := by decide
theorem test_decode_init : decode 0x01000000 = .ok .init := by decide
theorem test_decode_update : decode 0x02000000 = .ok .update := by decide
theorem test_decode_start : decode 0x03000000 = .ok .start := by decide
theorem test_decode_stop : decode 0x04000000 = .ok .stop := by decide
theorem test_decode_toggleStandby : decode 0x05000000 = .ok .toggleStandby := by decide
theorem test_decode_wake : decode 0x06000000 = .ok .wake := by decide
theorem test_decode_cycleSpeed : decode 0x07000000 = .ok .cycleSpeed := by decide
/-- SPEED is operand bits [1:0] = 01. -/
theorem test_decode_setSpeed :
    decode 0b00001000_00000000_00000000_00000001 = .ok (.setSpeed 1) := by decide
/-- PITCH is operand bits [15:0] = 0xFF06, two's complement for −250. -/
theorem test_decode_setPitch_negative :
    decode 0b00001001_00000000_11111111_00000110 = .ok (.setPitch (-250)) := by decide
theorem test_decode_setPitch_positive : decode 0x09001388 = .ok (.setPitch 5000) := by decide
theorem test_decode_resetPitch : decode 0x0A000000 = .ok .resetPitch := by decide
/-- KIND is operand bits [2:0] = 001, CRIT is operand bit [3] = 1. -/
theorem test_decode_reportError :
    decode 0b00001011_00000000_00000000_00001001 = .ok (.reportError 1 true) := by decide
theorem test_decode_loadDefaults : decode 0x0C000000 = .ok .loadDefaults := by decide
theorem test_decode_reserved :
    decode 0x0D000000 = .error (.reservedOpcode 0x0D) ∧ decode 0xFF000000 = .error (.reservedOpcode 0xFF) := by
  decide
theorem test_decodeTableWord : decodeTableWord 32 0x0900FF06 = some (.setPitch (-250)) := by decide
theorem test_encode : encode (.setPitch (-250)) = 0x0900FF06 ∧ encode (.reportError 1 true) = 0x0B000009 := by
  decide

/-! ## Small states -/

/-- Right after INIT at time 0 (vectors 2.4: `STATUS` = 0x00010008), before any relay evaluation. -/
def ready : State := { State.reset with status.sysinit := true, status.wdtArmed := true }

/-- `ready` in motor state `m`. -/
def inMotor (m : MotorState) : State := { ready with status.motor := m }

/-- `s` with one agent step scheduled. -/
def toRun (a : AgentStep) (s : State) : State := { s with schedule := [a] }

/-- A field of the state a command or a write answers, nothing where it does not answer one. -/
def after {α : Type} (r : Result) (f : State → α) : Option α :=
  match r with
  | .next t => some (f t)
  | .fault _ => none
  | .refused _ => none

/-- What `STATUS` reads after a command. -/
def statusAfter (i : Instr) (s : State) : Option Word := after (exec i s) fun t => statusWord t.status

/-! ## Commands (vectors 2.4, 2.7) -/

theorem test_update_before_init : statusAfter .update State.reset = some 0 := by decide
theorem test_init : statusAfter .init State.reset = some 0x00010008 := by decide
theorem test_second_init : statusAfter .init ready = some 0x00010008 := by decide
/-- P1: START from Standby reads Starting (code 2) with SYSINIT and WDT_ARMED. -/
theorem test_start : statusAfter .start ready = some 0x0001000A := by decide
theorem test_start_latches_target :
    after (exec .start ready) (fun t => (t.latches.stTgt, t.latches.stAmp)) = some (50000, 32768) := by decide
/-- 2.4: STOP from Running at 50 Hz and amplitude 32 768. -/
theorem test_stop : after (exec .stop { inMotor .running with curFreq := 50000, curAmp := 32768 })
    (fun t => (t.latches.stopA0, t.latches.stopF0, t.latches.stopTgt, t.latches.stopTamp))
      = some (32768, 50000, 50000, 32768) := by decide
/-- R614: STOP in Stopped is ignored without error. -/
theorem test_stop_in_stopped : statusAfter .stop (inMotor .stopped) = some 0x00010009 := by decide
theorem test_toggleStandby : statusAfter .toggleStandby ready = some 0x00010009 := by decide
/-- 2.4: the standby relay and its pin are asserted; no mute relay before the grace latch. -/
theorem test_toggleStandby_relay : after (exec .toggleStandby ready) relayWord = some 0x00001010 := by decide
theorem test_wake : statusAfter .wake ready = some 0x00010009 := by decide
/-- The second: R619, D27, SMOOTH_SW cleared in the middle of a ramp. SW_ACTIVE (bit 12) is 0 after it. -/
theorem test_cycleSpeed : statusAfter .cycleSpeed ready = some 0x00010408
    ∧ statusAfter .cycleSpeed { inMotor .running with status.swActive := true } = some 0x0001040B := by decide
/-- `WR 0x238, 3` clears EN78; the cycle from 45 RPM then goes to 33. -/
theorem test_cycleSpeed_skips_78 :
    statusAfter .cycleSpeed { ready with status.speedIdx := .rpm45, cfg.en78 := false } = some 0x00010008 := by
  decide
theorem test_setSpeed_3 : statusAfter (.setSpeed 3) ready = some 0x00010208 := by decide
theorem test_setSpeed_2 : statusAfter (.setSpeed 2) ready = some 0x00010808 := by decide
theorem test_setPitch_clamps : after (exec (.setPitch 7000) ready) (fun t => (t.pitchRaw, readReg .curPitch t))
    = some (5000, 1000) := by decide
theorem test_resetPitch :
    after (exec .resetPitch { ready with pitchRaw := 5000 }) (fun t => t.pitchRaw) = some 0 := by decide
theorem test_reportError_crit : after (exec (.reportError 1 true) ready)
    (fun t => (errStatusWord t.errStatus, t.errDisplayMs, t.status.hasCrit, t.status.critMute))
      = some (0x19, 10000, true, true) := by decide
theorem test_reportError_5 : statusAfter (.reportError 5 false) State.reset = some 0x00000200 := by decide
theorem test_loadDefaults :
    after (exec .loadDefaults { ready with cfg.maxAmpPct := 50 }) (fun t => t.cfg.maxAmpPct) = some 100 := by
  decide
/-- R731: one minute of Stopped at AUTO_STANDBY_MIN = 1. -/
theorem test_update_auto_standby : after
    (exec .update { inMotor .stopped with timeMs := 60000, cfg.autoStandbyMin := 1 }) (fun t => t.status.motor)
      = some .standby := by decide
/-- S4: at brake time 4000 the frequency is restored to +50 Hz, the DDS is off, the state is Stopped. -/
theorem test_update_ends_pulse_brake : after
    (exec .update { inMotor .stopping with
      timeMs := 5001, stateEpoch := 1001, latches.stopTgt := 50000, cfg.brakeMode := .pulse, cfg.brakeMs := 4000 })
    (fun t => (t.status.motor, t.curFreq, t.curAmp, t.curEn)) = some (.stopped, 50000, 0, false) := by decide

/-! ## Targets, ramps and modulators (vectors 2.4, 2.5) -/

theorem test_targetFreq_pitch : targetFreq { State.reset with pitchRaw := 250 } .rpm33 = 51250 := by decide
theorem test_targetFreq_swapped_bounds :
    targetFreq { State.reset with
      profiles.sp33.minMhz := 80000, profiles.sp33.maxMhz := 60000 } .rpm33 = 60000 := by decide
theorem test_targetAmp : targetAmp { State.reset with cfg.maxAmpPct := 99 } = 32440 := by decide
theorem test_lerp_kick : lerp 202500 67500 1999 2000 = 67567 := by decide
theorem test_rampLin : rampLin 32768 999 1000 = 32735 := by decide
theorem test_rampS : rampS .b10 32768 250 1000 = 4809 ∧ rampS .b10 32768 999 1000 = 32768 := by
  decide +kernel
theorem test_fda : fda 50 32768 50000 67500 = 28520 ∧ fda 1 32768 (-50000) 50000 = 327 := by decide

/-! ## Waveform and filters (vectors 2.2, 2.3) -/

theorem test_lut_b10 :
    [1, 4, 64, 128, 200, 255, 256, 768, 1023].map (lut .b10) = [3, 13, 196, 361, 481, 511, 511, -511, -3] := by
  decide +kernel
theorem test_interp :
    [0x00300000, 0x003FFFFF, 0xFFE00000, 0xFFFFFFFF, 0x12345678, 0x9ABCDEF0].map (interp .b10)
      = [2, 2, -2, -1, 220, -312] := by decide +kernel
theorem test_interp_b14 : [0x12345678, 0xFFFFFFFF, 0x00300000].map (interp .b14) = [221, 0, 2] := by
  decide +kernel
theorem test_phaseInc : [1, -1, 50000, -50000, 12000000].map phaseInc
    = [0x00000056, 0xFFFFFFAA, 0x00418937, 0xFFBE76C9, 0x3D70A3D7] := by decide
theorem test_phaseOff : [1, 12000, 24000, 35999].map phaseOff
    = [0x0001D209, 0x55555555, 0xAAAAAAAB, 0xFFFE2DF7] := by decide
theorem test_rhu : rhu (24576 * -300) 15 = -225 ∧ rhu (16384 * -511) 15 = -255 ∧ rhu (16384 * -1) 15 = 0 := by
  decide
/-- α = 32 768 from `IIR_Y` = 511·65536 at input 0: the output is 256. -/
theorem test_iirStep : (iirStep 32768 0 { ChanFilter.zero with iirY := 511 * 65536 }).1 = 256 := by decide
/-- Medium taps, the second output of a step of 511. -/
theorem test_firStep :
    (firStep Config.firCoeffDefault .medium 511 (firStep Config.firCoeffDefault .medium 511 .zero).2).1 = 48 := by
  decide
/-- P1's first words: channels 0 and 1 at phase 0, and channels 2 and 3. -/
theorem test_synthTick :
    let S : DdsBlock := { DdsBlock.silent with
      en := true, amp := 32768, pm := 4, off1 := 0x40000000, off2 := 0x80000000, off3 := 0xC0000000 }
    let t := synthTick .b10 Config.firCoeffDefault S 0 (Vector.replicate 4 .zero)
    packWord t[0].1 t[1].1 = 0x03FF0200 ∧ packWord t[2].1 t[3].1 = 0x00010200 := by decide +kernel

/-! ## Agents and accesses (vectors 2.6, 2.7) -/

theorem test_read_reserved : memRead 0x114 4 State.reset = (0, raise .buserr State.reset) := by decide
theorem test_write_unaligned :
    after (memWrite 0x006 4 1 State.reset) (fun t => statusWord t.status) = some 0x00000100 := by decide
theorem test_write_read_only : after (memWrite 0x008 4 5 State.reset) id = some State.reset := by decide
theorem test_write_phase0_cdeg :
    after (memWrite 0x30C 4 0xFFFFDCD8 State.reset) (fun t => (memRead 0x30C 4 t).1) = some 27000 := by decide
theorem test_write_boot_cfg :
    after (memWrite 0x238 4 0x31F State.reset) (fun t => (memRead 0x238 4 t).1) = some 0x1F := by decide
/-- R441: the consumer reaches the end of half 1 with half 0 not refilled. -/
theorem test_tick_underrun :
    (tick { ready with
      status.started := true, bufs := ⟨⟨false, false⟩, ⟨false, false⟩, ⟨true, false⟩, .h1, .h0, 255⟩ }).status.underrun
      = true := by decide
theorem test_isr : (isr .h1 { ready with bufs.irq := ⟨false, true⟩, bufs.free := ⟨true, false⟩ }).bufs.free
    = ⟨true, true⟩ := by decide
/-- 2.7: elapsed 1999 runs CLK; elapsed 2000 is the watchdog's reset. -/
theorem test_watchdog :
    after (step (toRun .clk { ready with timeMs := 1999 })) (fun t => (statusWord t.status, t.timeMs))
        = some (0x00010008, 2000)
      ∧ after (step (toRun .clk { ready with timeMs := 2000 })) (fun t => (statusWord t.status, t.timeMs))
        = some (0, 0) := by decide
theorem test_withFetchWord_runs :
    after (step (State.reset.withFetchWord 32 0x01000000)) (fun t => statusWord t.status) = some 0x00010008 := by
  decide

/-! ## Witnesses: states and operands that meet a statement's hypotheses -/

theorem reset_configLegal : ConfigLegal State.reset :=
  ⟨by unfold LegalConfig; decide, fun k => by unfold LegalProfile; cases k <;> decide⟩

theorem reset_valuesInRange : ValuesInRange State.reset :=
  ⟨reset_configLegal, by unfold AmplitudesInRange; decide, by unfold FrequenciesInRange; decide,
    by unfold CountsInRange; decide, by unfold BlockStepsInRange; decide, by unfold BlockStepsInRange; decide⟩

theorem reset_filtersInRange : FiltersInRange State.reset := by unfold FiltersInRange; decide

theorem reset_bufferLayout : BufferLayout State.reset := fun sl h j _ => by
  show Memory.readWord [] _ &&& _ = _
  simp [Memory.readWord, Memory.readByte]

theorem witness_ResetReadsItsRegisters :
    (0x000 % 4 = 0 ∧ 0x000 ≤ 0x1FFF ∧ ¬reservedOffset 0x000)
      ∧ (0x1FFC % 4 = 0 ∧ 0x1FFC ≤ 0x1FFF ∧ ¬reservedOffset 0x1FFC) := by unfold reservedOffset; decide

theorem witness_CommandsDecodeFromTheirWords :
    (Instr.setPitch (-32768)).wellFormed = true ∧ (Instr.setSpeed 3).wellFormed = true
      ∧ (Instr.reportError 7 true).wellFormed = true := by decide

theorem witness_EveryWordIsACommandOrReserved :
    opcodeOf 0x0CFFFFFF ≤ 0x0C ∧ 0x0D ≤ opcodeOf 0x0D000000 := by decide

theorem witness_UnnamedOperandBitsAreIgnored :
    let ok := fun w v : Word => opcodeOf w = opcodeOf v
      ∧ (opcodeOf w = 0x08 → w.extractLsb' 0 2 = v.extractLsb' 0 2)
      ∧ (opcodeOf w = 0x09 → w.extractLsb' 0 16 = v.extractLsb' 0 16)
      ∧ (opcodeOf w = 0x0B → w.extractLsb' 0 4 = v.extractLsb' 0 4)
    ok 0x08FFFFF1 0x08000001 ∧ ok 0x09FFFF06 0x0900FF06 ∧ ok 0x0B0000F9 0x0B000009
      ∧ ok 0x02FFFFFF 0x02000000 := by decide

theorem witness_ReservedOpcodeOnlyRaisesCmderr : 0x0D ≤ opcodeOf 0x0D000000 ∧ 0x0D ≤ opcodeOf 0xFF000000 := by
  decide

theorem witness_StepRunsTheScheduledCommand :
    (¬ResetDue (toRun (.hostWrite 0x004 4 0x03000000) ready)
        ∧ (toRun (.hostWrite 0x004 4 0x03000000) ready).schedule = [.hostWrite 0x004 4 0x03000000]
        ∧ decode 0x03000000 = .ok .start)
      ∧ (¬ResetDue State.reset ∧ (Instr.setPitch (-250)).wellFormed = true) := by
  unfold ResetDue; decide

theorem witness_StepGoesOnWhereEnabled :
    (State.reset.schedule = [] ∧ ¬ResetDue State.reset)
      ∧ (¬ResetDue (toRun .refill ready) ∧ (toRun .refill ready).schedule = [.refill]
        ∧ ready.status.sysinit = true ∧ ready.bufs.free.get ready.bufs.nextFill = true)
      ∧ (¬ResetDue (toRun (.hostRead 0x008 4) ready)
        ∧ (toRun (.hostRead 0x008 4) ready).schedule = [.hostRead 0x008 4])
      ∧ (¬ResetDue (toRun .refill State.reset) ∧ State.reset.status.sysinit = false)
      ∧ (¬ResetDue (toRun .tick ready) ∧ ready.status.started = false)
      ∧ (¬ResetDue (toRun (.isr .h1) ready) ∧ ready.bufs.irq.get .h1 = false)
      ∧ ¬ResetDue { toRun .clk ready with timeMs := 1999 } := by unfold ResetDue; decide

theorem witness_NopLeavesEveryRegisterUnchanged : opcodeOf 0x00FFFFFF = 0x00 := by decide

theorem witness_CommandsBeforeInitAreIgnored :
    State.reset.status.sysinit = false ∧ (0x02 ≤ Instr.update.opcode ∧ Instr.update.opcode ≤ 0x0A)
      ∧ (0x02 ≤ Instr.resetPitch.opcode ∧ Instr.resetPitch.opcode ≤ 0x0A) := by decide

theorem witness_InitCompletes :
    ready.status.sysinit = true
      ∧ (State.reset.status.sysinit = false ∧ State.reset.cfg.autoBoot = false)
      ∧ (let s := { State.reset with cfg.autoBoot := true }
         s.status.sysinit = false ∧ s.cfg.autoBoot = true ∧ s.cfg.autoStart = false)
      ∧ (let s := { State.reset with cfg.autoBoot := true, cfg.autoStart := true }
         s.status.sysinit = false ∧ s.cfg.autoBoot = true ∧ s.cfg.autoStart = true) := by decide

theorem witness_StartCompletes :
    ((inMotor .standby).status.sysinit = true ∧ (inMotor .standby).status.motor = .standby)
      ∧ ((inMotor .stopped).status.sysinit = true ∧ (inMotor .stopped).status.motor = .stopped)
      ∧ ((inMotor .stopping).status.sysinit = true
        ∧ ¬((inMotor .stopping).status.motor = .standby ∨ (inMotor .stopping).status.motor = .stopped)) := by
  decide

theorem witness_StopCompletes :
    ((inMotor .running).status.sysinit = true ∧ (inMotor .running).status.motor = .running)
      ∧ ((inMotor .starting).status.sysinit = true ∧ (inMotor .starting).status.motor = .starting)
      ∧ ((inMotor .stopping).status.sysinit = true
        ∧ ¬((inMotor .stopping).status.motor = .starting ∨ (inMotor .stopping).status.motor = .running)) := by
  decide

theorem witness_ToggleStandbyCompletes :
    ((inMotor .standby).status.sysinit = true ∧ (inMotor .standby).status.motor = .standby)
      ∧ ((inMotor .running).status.sysinit = true ∧ (inMotor .running).status.motor ≠ .standby) := by decide

theorem witness_WakeCompletes :
    ((inMotor .standby).status.sysinit = true ∧ (inMotor .standby).status.motor = .standby)
      ∧ ((inMotor .stopped).status.sysinit = true ∧ (inMotor .stopped).status.motor ≠ .standby) := by decide

theorem witness_CycleSpeedCompletes : ∀ k ∈ [Speed.rpm33, .rpm45, .rpm78],
    let s := { ready with status.speedIdx := k }
    s.status.sysinit = true ∧ s.status.speedIdx = k ∧ s.cfg.smoothSw = false
      ∧ (inMotor .running).status.motor = .running ∧ (inMotor .running).cfg.smoothSw = false := by decide

theorem witness_SetSpeedCompletes :
    (ready.status.sysinit = true ∧ ready.cfg.en78 = true) ∧ (3 = 3 ∨ (3 = 2 ∧ ready.cfg.en78 = false))
      ∧ (let s := { ready with cfg.en78 := false }
         s.status.sysinit = true ∧ (2 = 3 ∨ (2 = 2 ∧ s.cfg.en78 = false)))
      ∧ (let s := { inMotor .running with cfg.smoothSw := true }
         s.status.sysinit = true ∧ Speed.rpm45 ≠ s.status.speedIdx ∧ s.status.motor = .running
          ∧ s.cfg.smoothSw = true)
      ∧ (let s := { inMotor .running with status.swActive := true }
         s.status.sysinit = true ∧ Speed.rpm45 ≠ s.status.speedIdx ∧ s.status.motor = .running
          ∧ s.cfg.smoothSw = false)
      ∧ (ready.status.sysinit = true ∧ Speed.rpm33 = ready.status.speedIdx) := by decide

theorem witness_PitchCommandsComplete : ready.status.sysinit = true := by decide

theorem witness_ReportErrorRecords : 0 ≤ 4 ∧ 2 ≤ 4 ∧ 4 ≤ 4 := by decide

theorem witness_ReportErrorRejectsUnnamedKinds :
    (5 ≤ 5 ∧ 5 ≤ 7 ∧ (0x0B000005 : Word) = encode (.reportError 5 false))
      ∧ (5 ≤ 7 ∧ 7 ≤ 7 ∧ (0x0B00000F : Word) = encode (.reportError 7 true)) := by decide

theorem witness_UpdateAtRest :
    let due := fun s : State => s.status.motor = .stopped ∧ 0 < s.cfg.autoStandbyMin.toNat
      ∧ s.cfg.autoStandbyMin.toNat * 60000 ≤ (s.timeMs - s.stateEpoch).toNat
    let rest := fun s : State => s.status.sysinit = true ∧ (s.status.motor = .standby ∨ s.status.motor = .stopped)
    let a := { inMotor .stopped with timeMs := 60000, cfg.autoStandbyMin := 1 }
    let b := { inMotor .stopped with timeMs := 59999, cfg.autoStandbyMin := 1 }
    (rest a ∧ due a) ∧ (rest b ∧ ¬due b) ∧ (rest (inMotor .standby) ∧ ¬due (inMotor .standby)) := by decide

/-- The soft start ends at 1000 ms and there is no kick: 1000 completes it, 999 does not. -/
theorem witness_UpdateWhileStarting :
    let done := fun s : State =>
      let P := s.profiles.get s.misc.stSpeed
      let t0 : Int := ((s.timeMs - s.stateEpoch).toNat : Int)
      (P.softStartMs.toNat : Int) ≤ t0
        ∧ ((P.kickMult.toNat : Int) = 1 ∨ (P.kickHoldMs.toNat : Int) + P.kickRampMs.toNat ≤ t0)
    let a := { inMotor .starting with timeMs := 1000 }
    let b := { inMotor .starting with timeMs := 999 }
    (a.status.sysinit = true ∧ a.status.motor = .starting ∧ done a)
      ∧ (b.status.sysinit = true ∧ b.status.motor = .starting ∧ ¬done b) := by decide

theorem witness_UpdateWhileRunning :
    (inMotor .running).status.sysinit = true ∧ (inMotor .running).status.motor = .running := by decide

/-- The default brake lasts 2000 ms: 2000 completes the stop, 1999 does not, in each brake mode. -/
theorem witness_UpdateWhileStopping :
    let el := fun s : State => ((s.timeMs - s.stateEpoch).toNat : Int)
    let a := { inMotor .stopping with timeMs := 2000 }
    (a.status.sysinit = true ∧ a.status.motor = .stopping ∧ (a.cfg.brakeMs.toNat : Int) ≤ el a)
      ∧ ∀ m ∈ [BrakeMode.off, .ramp, .pulse],
        let b := { inMotor .stopping with timeMs := 1999, cfg.brakeMode := m }
        b.status.sysinit = true ∧ b.status.motor = .stopping ∧ el b < (b.cfg.brakeMs.toNat : Int)
          ∧ b.cfg.brakeMode = m := by decide

theorem witness_RampsStayBetweenTheirEnds :
    ((0 : Int) ≤ 1000 ∧ (0 : Int) ≤ 1000 ∧ (1000 : Int) ≤ 1000 ∧ (0 : Int) < 1000)
      ∧ ((0 : Int) ≤ 32768 ∧ (0 : Int) ≤ 999 ∧ (0 : Int) ≤ 1000 ∧ (0 : Int) < 1000)
      ∧ ((0 : Int) ≤ 100 ∧ (100 : Int) ≤ 100 ∧ (0 : Int) ≤ 32768 ∧ (0 : Int) < 50000 ∧ (50000 : Int) ≤ 50000)
      ∧ ((999 : Int) < 1000 ∧ (0 : Int) ≤ 1 ∧ (1 : Int) ≤ 100 ∧ (1 : Int) ≠ 0) := by decide

theorem witness_TargetsFollowProfileAndPitch : ConfigLegal State.reset := reset_configLegal

theorem witness_TargetsStayInTheirBounds : ConfigLegal State.reset ∧ effPitch State.reset = 0 :=
  ⟨reset_configLegal, by decide⟩

/-- A command, the boot of INIT, and a due reset. -/
theorem witness_MotorTransitionsAreTheTable :
    (let s := toRun (.hostWrite 0x004 4 0x03000000) (inMotor .stopped)
     BeforeInitAtRest s ∧ ¬ResetDue s ∧ ∃ t, step s = .next t ∧ t.status.motor ≠ s.status.motor)
      ∧ (let s := toRun (.hostWrite 0x004 4 0x01000000) { State.reset with cfg.autoBoot := true }
         BeforeInitAtRest s ∧ ¬ResetDue s ∧ ∃ t, step s = .next t ∧ t.status.motor ≠ s.status.motor)
      ∧ ResetDue { ready with timeMs := 2000 } := by
  unfold BeforeInitAtRest ResetDue
  exact ⟨⟨by decide, by decide, _, rfl, by decide⟩, ⟨by decide, by decide, _, rfl, by decide⟩, by decide⟩

theorem witness_LutHasItsSymmetries :
    512 ≤ lutSize .b10 / 2 ∧ (0 < 1 ∧ 1 < lutSize .b10) ∧ (0 < 1023 ∧ 1023 < lutSize .b10)
      ∧ 16383 < lutSize .b14 := by decide

theorem witness_LutEntriesAreNearestToTheSine : 0 < lutSize .b10 ∧ 16383 < lutSize .b14 := by decide

theorem witness_InterpolationStaysBetweenEntries :
    (0xFFC00000 : Word).toNat / 2 ^ (22 - LutBits.b10.bits) % 1024 = 0
      ∧ (0x003FFFFF : Word).toNat / 2 ^ (22 - LutBits.b10.bits)
        = (0x003FF000 : Word).toNat / 2 ^ (22 - LutBits.b10.bits) := by decide

theorem witness_PhaseStepsAreRoundedShares :
    (12000000 : Int).natAbs ≤ 12000000 ∧ (-12000000 : Int).natAbs ≤ 12000000
      ∧ (35999 : Word).toNat ≤ 35999 := by decide

theorem witness_FirOutputIsTheConvolution :
    ∀ k : Fin 8, (if k.val % 2 = 0 then (511 : Int) else -511).natAbs ≤ 511 := by decide

theorem witness_FilterStepsStayInRange :
    let ch : ChanFilter := { ChanFilter.zero with iirY := 511 * 65536, firHist := Vector.replicate 8 511 }
    (-511 : Int).natAbs ≤ 511 ∧ (s32 ch.iirY).natAbs ≤ 511 * 65536
      ∧ ∀ k : Fin 8, (s32 ch.firHist[k]).natAbs ≤ 511 := by decide

theorem witness_SwapExchangesTheBlocks :
    State.reset.pendingBlock.kind = State.reset.activeBlock.kind
      ∧ (let s := { State.reset with ddsB.kind := .iir }
         s.pendingBlock.kind ≠ s.activeBlock.kind) := by decide

theorem witness_RefillMovesTheBuffer :
    let first := fun s : State => s.status.started = false ∧ s.bufs.ready.get s.bufs.nextFill.other = true
    let a := { ready with bufs.ready := ⟨true, false⟩, bufs.free := ⟨false, true⟩, bufs.nextFill := .h1 }
    let enabled := fun s : State => s.status.sysinit = true ∧ s.bufs.free.get s.bufs.nextFill = true
    (enabled a ∧ first a) ∧ (enabled ready ∧ ¬first ready) := by decide

theorem witness_DisabledRefillWritesTheCentre :
    let off := fun s : State => (if s.status.pub = true then s.pendingBlock else s.activeBlock).en = false
    let b := { ready with status.pub := true }
    let c := { ready with status.pub := true, ddsB.kind := .fir }
    (off ready ∧ ready.status.pub = false)
      ∧ (off b ∧ (b.status.pub = false ∨ b.pendingBlock.kind = b.activeBlock.kind))
      ∧ (off c ∧ c.status.pub = true ∧ c.pendingBlock.kind ≠ c.activeBlock.kind) := by decide

theorem witness_RefillWritesTheSamplesOfOneBlock : ∀ k ∈ [FilterKind.none, .iir, .fir],
    let s := { ready with status.pub := true, ddsB.en := true, ddsB.kind := k }
    let S := if s.status.pub = true then s.pendingBlock else s.activeBlock
    S.en = true ∧ S.kind = k := by decide

theorem witness_TickPlaysTheHalf :
    let at_ := fun n : Fin 256 => { ready with status.started := true, bufs.tickPos := n }
    ((at_ 254).status.started = true ∧ (at_ 254).bufs.tickPos.val < 255)
      ∧ ((at_ 255).status.started = true ∧ (at_ 255).bufs.tickPos.val = 255) := by decide

theorem witness_IsrFreesAndClkCounts :
    (let s := { ready with bufs.irq := ⟨false, true⟩ }
     s.bufs.irq.get .h1 = true) := by decide

theorem witness_ProfileWritesReadBackLegal : 0x380 = 0x300 ∨ 0x380 = 0x340 ∨ 0x380 = 0x380 := by decide

theorem witness_ConfigWritesTouchOneRegister :
    (0x200 ≤ 0x240 ∧ 0x240 ≤ 0x3FF ∧ 0x240 % 4 = 0 ∧ ¬reservedOffset 0x240)
      ∧ (0x200 ≤ 0x3B8 ∧ 0x3B8 ≤ 0x3FF ∧ 0x3B8 % 4 = 0 ∧ ¬reservedOffset 0x3B8) ∧ 0x3B8 ≠ 0x240 := by
  unfold reservedOffset; decide

/-- One access for each way to be illegal, at the edges of the ranges. -/
theorem witness_IllegalAccessOnlySetsBuserr :
    2 ≠ 4 ∧ 0x006 % 4 ≠ 0 ∧ 0x1FFF < 0x2000 ∧ reservedOffset 0x114 ∧ reservedOffset 0x33C
      ∧ reservedOffset 0xFFC := by unfold reservedOffset; decide

theorem witness_RegisterReadsHaveNoSideEffect : 0x004 % 4 = 0 ∧ 0x004 ≤ 0x1FFF ∧ ¬reservedOffset 0x004 := by
  unfold reservedOffset; decide

theorem witness_ReadOnlyWritesAreIgnored :
    (0x1A4 % 4 = 0 ∧ 0x1A4 ≤ 0x1FFF ∧ ¬reservedOffset 0x1A4 ∧ 0x1A4 ≠ 0x004 ∧ 0x1A4 ≠ 0x020
        ∧ (0x1A4 < 0x200 ∨ 0x1000 ≤ 0x1A4))
      ∧ (0x1FFC % 4 = 0 ∧ 0x1FFC ≤ 0x1FFF ∧ ¬reservedOffset 0x1FFC ∧ 0x1FFC ≠ 0x004 ∧ 0x1FFC ≠ 0x020
        ∧ (0x1FFC < 0x200 ∨ 0x1000 ≤ 0x1FFC)) := by unfold reservedOffset; decide

theorem witness_StickyBitsClearOnlyAtReset :
    (let s := toRun .clk { ready with
        status.underrun := true, status.buserr := true, status.cmderr := true, status.hasCrit := true }
     (∃ t, step s = .next t) ∧ ¬ResetDue s ∧ s.status.underrun = true ∧ s.status.buserr = true
      ∧ s.status.cmderr = true ∧ s.status.hasCrit = true)
      ∧ (let s := { ready with timeMs := 2000 }
         (∃ t, step s = .next t) ∧ ResetDue s) := by
  unfold ResetDue
  exact ⟨⟨⟨_, rfl⟩, by decide⟩, ⟨_, rfl⟩, by decide⟩

theorem witness_DueWatchdogResetsTheBlock :
    let s := { ready with timeMs := 2000 }
    s.status.wdtArmed = true ∧ 2000 ≤ (s.timeMs - s.latches.wdtFeed).toNat := by decide

theorem witness_WatchdogIsNeverOverdue :
    (let s := toRun .clk { ready with timeMs := 1999 }
     WatchdogKept s ∧ (∃ t, step s = .next t) ∧ s.status.sysinit = true ∧ ¬ResetDue s)
      ∧ BeforeInitAtRest (toRun (.hostWrite 0x004 4 0x0B000009) State.reset)
      ∧ ∃ t, step (toRun (.hostWrite 0x004 4 0x0B000009) State.reset) = .next t := by
  unfold WatchdogKept ResetDue BeforeInitAtRest
  exact ⟨⟨by decide, ⟨_, rfl⟩, by decide, by decide⟩, by decide, ⟨_, rfl⟩⟩

/-- Half 0 is played, half 1 is free and next to be filled. -/
def playing : State :=
  { ready with
    status.started := true
    bufs := ⟨⟨false, false⟩, ⟨false, true⟩, ⟨false, false⟩, .h0, .h1, 0⟩ }

theorem witness_EachHalfKeepsOneHolder :
    BufferProtocol (toRun .tick playing) ∧ ContractKept (toRun .tick playing)
      ∧ ∃ t, step (toRun .tick playing) = .next t :=
  ⟨fun _ h => by cases h <;> rfl, rfl, ⟨_, rfl⟩⟩

theorem witness_RefillNeverWritesThePlayedHalf :
    BufferProtocol playing ∧ ContractKept playing ∧ playing.bufs.free.get playing.bufs.nextFill = true
      ∧ playing.status.started = true :=
  ⟨fun _ h => by cases h <;> rfl, rfl, by decide, by decide⟩

theorem witness_ConfigurationStaysLegal :
    ConfigLegal (toRun (.hostWrite 0x204 4 150) State.reset)
      ∧ ∃ t, step (toRun (.hostWrite 0x204 4 150) State.reset) = .next t := ⟨reset_configLegal, ⟨_, rfl⟩⟩

theorem witness_StoredValuesStayInRange :
    ValuesInRange (toRun (.hostWrite 0x004 4 0x01000000) State.reset)
      ∧ ∃ t, step (toRun (.hostWrite 0x004 4 0x01000000) State.reset) = .next t :=
  ⟨reset_valuesInRange, ⟨_, rfl⟩⟩

theorem witness_FilterHistoriesStayInRange :
    let s := toRun .clk { State.reset with filters := Vector.replicate 4 { ChanFilter.zero with iirY := 511 * 65536 } }
    ValuesInRange s ∧ FiltersInRange s ∧ ∃ t, step s = .next t :=
  ⟨reset_valuesInRange, by unfold FiltersInRange; decide, ⟨_, rfl⟩⟩

theorem witness_BufferMemoryKeepsItsForm :
    let s := toRun .clk State.reset
    (∃ t, step s = .next t) ∧ s.mem.wf = true ∧ BufferLayout s ∧ OutputLayout s :=
  ⟨⟨_, rfl⟩, rfl, reset_bufferLayout, by unfold OutputLayout; decide⟩

theorem witness_AgentsKeepToTheirOwnState :
    ((∃ t, agentStep (.hostWrite 0x004 4 0x02000000) ready = .next t)
        ∧ decode 0x02000000 ≠ .ok .loadDefaults ∧ ∀ c, decode 0x02000000 ≠ .ok (.reportError 2 c))
      ∧ ((∃ t, agentStep (.hostWrite 0x204 4 50) ready = .next t) ∧ ¬(0x204 = 0x004 ∧ 4 = 4))
      ∧ (∃ t, agentStep (.hostRead 0x114 4) ready = .next t)
      ∧ (∃ t, agentStep .refill playing = .next t) ∧ (∃ t, agentStep .tick playing = .next t)
      ∧ (∃ t, agentStep (.isr .h1) { ready with bufs.irq := ⟨false, true⟩ } = .next t)
      ∧ ∃ t, agentStep .clk ready = .next t :=
  ⟨⟨⟨_, rfl⟩, by decide, by decide⟩, ⟨⟨_, rfl⟩, by decide⟩, ⟨_, rfl⟩, ⟨_, rfl⟩, ⟨_, rfl⟩, ⟨_, rfl⟩, ⟨_, rfl⟩⟩

end Sys2Proof.Tests
end

section
/-!
PROOFS. Every stored value with a range keeps it at every step (spec/00_scope.md R13, R14): the bounds of
the arithmetic of UPDATE, the legality of configuration writes, the invariant field by field, and its
preservation by each command and each agent.
-/

namespace Sys2Proof.Machine

open Sys2Proof

/-! ## Words read as numbers -/

/-- A word read as unsigned, with its bound. -/
theorem unsigned_mem {w : Word} {hi : Nat} (h : w.toNat ≤ hi) : 0 ≤ unsigned w ∧ unsigned w ≤ hi :=
  ⟨Int.natCast_nonneg _, Int.ofNat_le.2 h⟩

/-- A word whose top bit is 0 reads the same, with its bound, as signed. -/
theorem s32_mem {w : Word} {hi : Nat} (h : w.toNat ≤ hi) (hhi : hi < 2147483648 := by decide) :
    0 ≤ s32 w ∧ s32 w ≤ hi := by
  rw [s32_eq_toNat (by omega)]
  exact unsigned_mem h

/-! ## Shares, ramps and modulators (R402, R710 to R720, R736) -/

/-- The floor of a share `t/T` of `d`, with `0 ≤ t ≤ T`, lies in every interval that holds 0 and `d`. -/
theorem floorDiv_share_mem {d t T lo hi : Int} (hT : 0 < T) (ht : 0 ≤ t) (htT : t ≤ T)
    (hlo : lo ≤ 0) (hhi : 0 ≤ hi) (hd : lo ≤ d) (hd' : d ≤ hi) :
    lo ≤ floorDiv (d * t) T ∧ floorDiv (d * t) T ≤ hi :=
  floorDiv_mem hT
    ((mul_le_mul_of_nonpos_left htT hlo).trans (mul_le_mul_of_nonneg_right hd ht))
    ((mul_le_mul_of_nonneg_right hd' ht).trans (mul_le_mul_of_nonneg_left htT hhi))

/-- R402: an interpolated sample lies within the sine table's bound. -/
theorem interp_mem (L : LutBits) (p : Word) : -511 ≤ interp L p ∧ interp L p ≤ 511 := by
  rw [interp_eq, lut_eq, lut_eq]
  have h0 := lutFull_mem (phaseIndex L p * 2 ^ (14 - L.bits))
  have h1 := lutFull_mem ((phaseIndex L p + 1) % lutSize L * 2 ^ (14 - L.bits))
  generalize lutFull (phaseIndex L p * 2 ^ (14 - L.bits)) = s0 at *
  generalize lutFull ((phaseIndex L p + 1) % lutSize L * 2 ^ (14 - L.bits)) = s1 at *
  have hfrac := phaseFrac_lt L p
  have := floorDiv_share_mem (d := s1 - s0) (t := phaseFrac L p) (T := 1024) (lo := -511 - s0)
    (hi := 511 - s0) (by omega) (by omega) (by omega) (by omega) (by omega) (by omega) (by omega)
  omega

/-- R710: interpolation stays in every interval that holds both ends. -/
theorem lerp_mem {v0 v1 t T lo hi : Int} (ht : 0 ≤ t) (h0 : lo ≤ v0) (h0' : v0 ≤ hi) (h1 : lo ≤ v1)
    (h1' : v1 ≤ hi) : lo ≤ lerp v0 v1 t T ∧ lerp v0 v1 t T ≤ hi := by
  unfold lerp
  split
  · exact ⟨h1, h1'⟩
  · have := floorDiv_share_mem (d := v1 - v0) (t := t) (T := T) (lo := lo - v0) (hi := hi - v0)
      (by omega) ht (by omega) (by omega) (by omega) (by omega) (by omega)
    omega

/-- R711 to R713: a soft-start ramp stays between 0 and its target. -/
theorem ramp_mem (L : LutBits) (ty : RampType) {tg t : Int} (T : Int) (htg : 0 ≤ tg) (ht : 0 ≤ t) :
    0 ≤ ramp L ty tg t T ∧ ramp L ty tg t T ≤ tg := by
  cases ty with
  | linear =>
    rw [ramp, rampLin]
    split
    · exact ⟨htg, le_rfl⟩
    · exact floorDiv_share_mem (by omega) ht (by omega) le_rfl htg htg le_rfl
  | sCurve =>
    rw [ramp, rampS]
    split
    · exact ⟨htg, le_rfl⟩
    · have := interp_mem L (u32 (0x40000000 + floorDiv (t * 2 ^ 31) T))
      exact floorDiv_share_mem (by omega) (by omega) (by omega) le_rfl htg htg le_rfl

/-- R720: the modulator scales an amplitude by a share. -/
theorem fda_mem {r a : Int} (f tgt : Int) (hr : 0 ≤ r) (hr' : r ≤ 100) (ha : 0 ≤ a) :
    0 ≤ fda r a f tgt ∧ fda r a f tgt ≤ a := by
  unfold fda
  split
  · exact ⟨ha, le_rfl⟩
  · have hq := clamp_mem (floorDiv (f * 65536) tgt) 0 65536 (by omega)
    dsimp only
    generalize clamp (floorDiv (f * 65536) tgt) 0 65536 = q at *
    have hsc : 0 ≤ floorDiv (r * 65536 + (100 - r) * q) 100
        ∧ floorDiv (r * 65536 + (100 - r) * q) 100 ≤ 65536 :=
      floorDiv_mem (by omega) (by nlinarith) (by nlinarith)
    exact floorDiv_share_mem (by omega) hsc.1 hsc.2 le_rfl ha ha le_rfl

/-- R736: a percentage of at most 100 does not raise a value. -/
theorem pctOf_mem {x p : Int} (hx : 0 ≤ x) (hp : 0 ≤ p) (hp' : p ≤ 100) :
    0 ≤ pctOf x p ∧ pctOf x p ≤ x := by
  have h0 : 0 ≤ x * p := mul_nonneg hx hp
  have h1 : x * p ≤ x * 100 := mul_le_mul_of_nonneg_left hp' hx
  rw [pctOf, floorDiv_eq_div]
  omega

/-- R410: the phase increment of a frequency in range. -/
theorem natAbs_phaseInc_le {f : Int} (hf : f.natAbs ≤ 12000000) :
    (s32 (phaseInc f)).natAbs ≤ 1030792151 := by
  have hq : 0 ≤ floorDiv (f.natAbs * 2 ^ 32 + 25000000) Config.fPwmMhz
      ∧ floorDiv (f.natAbs * 2 ^ 32 + 25000000) Config.fPwmMhz ≤ 1030792151 := by
    rw [floorDiv_eq_div, Config.fPwmMhz]; omega
  unfold phaseInc
  generalize floorDiv (f.natAbs * 2 ^ 32 + 25000000) Config.fPwmMhz = q at *
  have hsq : (f.sign * q).natAbs ≤ 1030792151 := by
    rcases lt_trichotomy f 0 with h | h | h
    · rw [Int.sign_eq_neg_one_of_neg h]; omega
    · rw [h]; simp
    · rw [Int.sign_eq_one_of_pos h]; omega
  rwa [s32_u32 (by omega) (by omega)]

/-! ## Legal configuration (R810 to R814) -/

theorem clampu_mem (v : Word) {lo hi : Nat} (h : lo ≤ hi := by decide) (h' : hi < 2 ^ 32 := by decide) :
    lo ≤ (clampu v lo hi).toNat ∧ (clampu v lo hi).toNat ≤ hi :=
  ⟨le_toNat_clampu v lo hi h' h, toNat_clampu_le v lo hi h'⟩

/-- R814: a stored pitch range is one of the five. -/
theorem legalPitchRange_mem (v : Word) : legalPitchRange v ∈ ([10, 20, 30, 40, 50] : List Word) := by
  have hv := clampu_mem v (lo := 10) (hi := 50)
  have hq : 1 ≤ (clampu v 10 50).toNat / 10 ∧ (clampu v 10 50).toNat / 10 ≤ 5 := by omega
  rw [legalPitchRange]
  generalize (clampu v 10 50).toNat / 10 = q at hq
  obtain ⟨h1, h5⟩ := hq
  interval_cases q <;> decide

/-- R812: a stored phase offset is below a full turn. -/
theorem toNat_legalCdeg_le (v : Word) : (legalCdeg v).toNat ≤ 35999 := by
  have h := toNat_u32 (v := s32 v % 36000) (by omega) (by omega)
  rw [legalCdeg]
  omega

/-- R810: a global configuration write stores a legal value. -/
theorem legalConfig_writeGlobal (g : GlobalReg) (v : Word) {c : GlobalConfig} (h : LegalConfig c) :
    LegalConfig (writeGlobal g v c) := by
  obtain ⟨hmode, hamp, hfda, hsw, hbrake, hgap, hstart, hstop, hdelay, hauto, hpitch, herr⟩ := h
  cases g with
  | phaseMode =>
    exact ⟨clampu_mem v, hamp, hfda, hsw, hbrake, hgap, hstart, hstop, hdelay, hauto, hpitch, herr⟩
  | maxAmpPct =>
    exact ⟨hmode, (clampu_mem v).2, hfda, hsw, hbrake, hgap, hstart, hstop, hdelay, hauto, hpitch, herr⟩
  | fdaPct =>
    exact ⟨hmode, hamp, (clampu_mem v).2, hsw, hbrake, hgap, hstart, hstop, hdelay, hauto, hpitch, herr⟩
  | swRampMs =>
    exact ⟨hmode, hamp, hfda, clampu_mem v, hbrake, hgap, hstart, hstop, hdelay, hauto, hpitch, herr⟩
  | brakeMs =>
    exact ⟨hmode, hamp, hfda, hsw, (clampu_mem v).2, hgap, hstart, hstop, hdelay, hauto, hpitch, herr⟩
  | pulseGapMs =>
    exact ⟨hmode, hamp, hfda, hsw, hbrake, clampu_mem v, hstart, hstop, hdelay, hauto, hpitch, herr⟩
  | brakeStartMhz =>
    exact ⟨hmode, hamp, hfda, hsw, hbrake, hgap, (clampu_mem v).2, hstop, hdelay, hauto, hpitch, herr⟩
  | brakeStopMhz =>
    exact ⟨hmode, hamp, hfda, hsw, hbrake, hgap, hstart, (clampu_mem v).2, hdelay, hauto, hpitch, herr⟩
  | powerOnDelayMs =>
    exact ⟨hmode, hamp, hfda, hsw, hbrake, hgap, hstart, hstop, (clampu_mem v).2, hauto, hpitch, herr⟩
  | autoStandbyMin =>
    exact ⟨hmode, hamp, hfda, hsw, hbrake, hgap, hstart, hstop, hdelay, (clampu_mem v).2, hpitch, herr⟩
  | pitchRange =>
    exact ⟨hmode, hamp, hfda, hsw, hbrake, hgap, hstart, hstop, hdelay, hauto, legalPitchRange_mem v, herr⟩
  | errDispMs =>
    exact ⟨hmode, hamp, hfda, hsw, hbrake, hgap, hstart, hstop, hdelay, hauto, hpitch, (clampu_mem v).2⟩
  | rampType | smoothSw | brakeMode | relayCfg | bootCfg =>
    exact ⟨hmode, hamp, hfda, hsw, hbrake, hgap, hstart, hstop, hdelay, hauto, hpitch, herr⟩

/-- R811: a profile write stores a legal value. -/
theorem legalProfile_writeProfile (f : ProfileReg) (v : Word) {p : SpeedProfile} (h : LegalProfile p) :
    LegalProfile (writeProfile f v p) := by
  obtain ⟨hnom, hmin, hmax, h0, h1, h2, h3, hsoft, hkick, hhold, hramp, hred, hdelay, halpha⟩ := h
  cases f with
  | nominalMhz =>
    exact ⟨clampu_mem v, hmin, hmax, h0, h1, h2, h3, hsoft, hkick, hhold, hramp, hred, hdelay, halpha⟩
  | minMhz =>
    exact ⟨hnom, clampu_mem v, hmax, h0, h1, h2, h3, hsoft, hkick, hhold, hramp, hred, hdelay, halpha⟩
  | maxMhz =>
    exact ⟨hnom, hmin, clampu_mem v, h0, h1, h2, h3, hsoft, hkick, hhold, hramp, hred, hdelay, halpha⟩
  | phase0Cdeg =>
    exact ⟨hnom, hmin, hmax, toNat_legalCdeg_le v, h1, h2, h3, hsoft, hkick, hhold, hramp, hred, hdelay,
      halpha⟩
  | phase1Cdeg =>
    exact ⟨hnom, hmin, hmax, h0, toNat_legalCdeg_le v, h2, h3, hsoft, hkick, hhold, hramp, hred, hdelay,
      halpha⟩
  | phase2Cdeg =>
    exact ⟨hnom, hmin, hmax, h0, h1, toNat_legalCdeg_le v, h3, hsoft, hkick, hhold, hramp, hred, hdelay,
      halpha⟩
  | phase3Cdeg =>
    exact ⟨hnom, hmin, hmax, h0, h1, h2, toNat_legalCdeg_le v, hsoft, hkick, hhold, hramp, hred, hdelay,
      halpha⟩
  | softStartMs =>
    exact ⟨hnom, hmin, hmax, h0, h1, h2, h3, (clampu_mem v).2, hkick, hhold, hramp, hred, hdelay, halpha⟩
  | kickMult =>
    exact ⟨hnom, hmin, hmax, h0, h1, h2, h3, hsoft, clampu_mem v, hhold, hramp, hred, hdelay, halpha⟩
  | kickHoldMs =>
    exact ⟨hnom, hmin, hmax, h0, h1, h2, h3, hsoft, hkick, (clampu_mem v).2, hramp, hred, hdelay, halpha⟩
  | kickRampMs =>
    exact ⟨hnom, hmin, hmax, h0, h1, h2, h3, hsoft, hkick, hhold, (clampu_mem v).2, hred, hdelay, halpha⟩
  | redPct =>
    exact ⟨hnom, hmin, hmax, h0, h1, h2, h3, hsoft, hkick, hhold, hramp, clampu_mem v, hdelay, halpha⟩
  | redDelayMs =>
    exact ⟨hnom, hmin, hmax, h0, h1, h2, h3, hsoft, hkick, hhold, hramp, hred, (clampu_mem v).2, halpha⟩
  | alphaQ16 =>
    exact ⟨hnom, hmin, hmax, h0, h1, h2, h3, hsoft, hkick, hhold, hramp, hred, hdelay, clampu_mem v⟩
  | filter =>
    exact ⟨hnom, hmin, hmax, h0, h1, h2, h3, hsoft, hkick, hhold, hramp, hred, hdelay, halpha⟩

/-- R160, R171: the defaults are legal. -/
theorem configLegal_default : LegalConfig .default ∧ ∀ k, LegalProfile (Profiles.default.get k) := by
  refine ⟨?_, fun k => ?_⟩
  · unfold LegalConfig; decide
  · unfold LegalProfile; cases k <;> decide

/-- R801: a register write keeps the configuration legal. -/
theorem configLegal_writeReg (r : Reg) (v : Word) {s : State} (h : ConfigLegal s) :
    ConfigLegal (writeReg r v s) := by
  obtain ⟨hc, hp⟩ := h
  rcases writeReg_cases r v s with ⟨-, e⟩ | ⟨g, -, e⟩ | ⟨k, f, -, e⟩ | e <;> rw [e]
  · exact ⟨hc, hp⟩
  · exact ⟨legalConfig_writeGlobal g v hc, hp⟩
  · refine ⟨hc, fun j => ?_⟩
    dsimp only
    rw [Profiles.get_set]
    split
    · exact legalProfile_writeProfile f v (hp k)
    · exact hp j
  · exact ⟨hc, hp⟩

/-- R602: on legal configuration a target frequency is a legal frequency. -/
theorem targetFreq_mem {s : State} (h : ConfigLegal s) (k : Speed) :
    10000 ≤ targetFreq s k ∧ targetFreq s k ≤ 3000000 := by
  obtain ⟨-, ⟨hmin, hmin'⟩, ⟨hmax, hmax'⟩, -⟩ := h.2 k
  have hlo : 10000 ≤ effMin (s.profiles.get k) := by unfold effMin unsigned; omega
  have hhi : effMax (s.profiles.get k) ≤ 3000000 := by unfold effMax unsigned; omega
  have hle : effMin (s.profiles.get k) ≤ effMax (s.profiles.get k) := by unfold effMin effMax; omega
  have := clamp_mem (effNominal (s.profiles.get k)
    + floorDiv (effNominal (s.profiles.get k) * effPitch s) 10000) _ _ hle
  unfold targetFreq
  dsimp only
  omega

/-- R603: on legal configuration the target amplitude is at most 1 in Q1.15. -/
theorem targetAmp_mem {s : State} (h : ConfigLegal s) : 0 ≤ targetAmp s ∧ targetAmp s ≤ 32768 := by
  obtain ⟨⟨-, hamp, -⟩, -⟩ := h
  have := unsigned_mem hamp
  rw [targetAmp, floorDiv_eq_div]
  omega

/-! ## The invariant, field by field -/

/-- R140: the four ranges of a block's fields. -/
structure BlockInRange (b : DdsBlock) : Prop where
  amp   : b.amp.toNat ≤ 32768
  freq  : (s32 b.baseFreq).natAbs ≤ 12000000
  pm    : b.pm.toNat ≤ 4
  steps : BlockStepsInRange b

/-- `ValuesInRange` with a name for each stored value, so that a proof about an update gives the ranges of
what it writes and takes over the others (`{ h with … }`, all of them where the update writes none). -/
structure RangesHold (s : State) : Prop where
  config    : ConfigLegal s
  curAmp    : s.curAmp.toNat ≤ 32768
  stAmp     : s.latches.stAmp.toNat ≤ 32768
  stopA0    : s.latches.stopA0.toNat ≤ 32768
  stopTamp  : s.latches.stopTamp.toNat ≤ 32768
  curFreq   : (s32 s.curFreq).natAbs ≤ 12000000
  stopF0    : (s32 s.latches.stopF0).natAbs ≤ 12000000
  swFrom    : (s32 s.latches.swFrom).natAbs ≤ 12000000
  stTgt     : s.latches.stTgt.toNat ≤ 3000000
  stopTgt   : s.latches.stopTgt.toNat ≤ 3000000
  swTo      : s.latches.swTo.toNat ≤ 3000000
  pitchRaw  : (s32 s.pitchRaw).natAbs ≤ 5000
  rtAcc     : s.latches.rtAcc.toNat ≤ 999
  relayN    : s.misc.relayN.toNat ≤ 4
  errMs     : s.errDisplayMs.toNat ≤ 60000
  blockA    : BlockInRange s.ddsA
  blockB    : BlockInRange s.ddsB

theorem valuesInRange_iff (s : State) : ValuesInRange s ↔ RangesHold s := by
  constructor
  · rintro ⟨hc, ⟨hcur, ha, hb, hst, hstop, htamp⟩, ⟨hfreq, hf0, hfrom, htgt, hstgt, hto, hfa, hfb⟩,
      ⟨hp, hrt, hn, hpa, hpb, herr⟩, hsa, hsb⟩
    exact ⟨hc, hcur, hst, hstop, htamp, hfreq, hf0, hfrom, htgt, hstgt, hto, hp, hrt, hn, herr,
      ⟨ha, hfa, hpa, hsa⟩, ⟨hb, hfb, hpb, hsb⟩⟩
  · rintro ⟨hc, hcur, hst, hstop, htamp, hfreq, hf0, hfrom, htgt, hstgt, hto, hp, hrt, hn, herr,
      ⟨ha, hfa, hpa, hsa⟩, ⟨hb, hfb, hpb, hsb⟩⟩
    exact ⟨hc, ⟨hcur, ha, hb, hst, hstop, htamp⟩, ⟨hfreq, hf0, hfrom, htgt, hstgt, hto, hfa, hfb⟩,
      ⟨hp, hrt, hn, hpa, hpb, herr⟩, hsa, hsb⟩

namespace RangesHold

variable {s : State}

/-- R606, R614, R619: a latched target frequency is in the range of a latched target. -/
theorem toNat_targetFreq_le (h : RangesHold s) (k : Speed) : (u32 (targetFreq s k)).toNat ≤ 3000000 := by
  have hf := targetFreq_mem h.config k
  have := toNat_u32 (v := targetFreq s k) (by omega) (by omega)
  omega

/-- R606, R614: a latched target amplitude is in range. -/
theorem toNat_targetAmp_le (h : RangesHold s) : (u32 (targetAmp s)).toNat ≤ 32768 := by
  have ha := targetAmp_mem h.config
  have := toNat_u32 (v := targetAmp s) (by omega) (by omega)
  omega

end RangesHold

/-! ## The drive of an UPDATE (R730 to R740) -/

/-- R13: a drive whose frequency and amplitude the registers hold. -/
structure DriveInRange (d : Drive) : Prop where
  freq   : d.f.natAbs ≤ 12000000
  nonneg : 0 ≤ d.a
  amp    : d.a ≤ 32768

/-- An idle output stays in range: its amplitude is 0. -/
theorem driveInRange_silent {f : Int} (hf : f.natAbs ≤ 12000000) : DriveInRange ⟨f, 0, false⟩ :=
  ⟨hf, le_rfl, by norm_num⟩

/-- R732: the kick multiplies the target by at most 4. -/
theorem startingFreq_mem {p : SpeedProfile} (hp : LegalProfile p) {tgt t : Int} (htgt : 0 ≤ tgt)
    (htgt' : tgt ≤ 3000000) : 0 ≤ startingFreq p tgt t ∧ startingFreq p tgt t ≤ 12000000 := by
  obtain ⟨-, -, -, -, -, -, -, -, ⟨-, hkick⟩, -⟩ := hp
  have hkick := unsigned_mem hkick
  have hk0 : 0 ≤ tgt * unsigned p.kickMult := mul_nonneg htgt (by omega)
  have hk4 : tgt * unsigned p.kickMult ≤ tgt * 4 := mul_le_mul_of_nonneg_left (by omega) htgt
  unfold startingFreq
  dsimp only
  split
  · omega
  · split
    · exact lerp_mem (by omega) (by omega) (by omega) (by omega) (by omega)
    · omega

section
variable {s : State} (h : RangesHold s)
include h

theorem driveInRange_evalIdle (k : Speed) : DriveInRange (evalIdle (targetFreq s k) s).1 := by
  have hf := targetFreq_mem h.config k
  exact driveInRange_silent (by omega)

theorem driveInRange_evalStarting (L : LutBits) : DriveInRange (evalStarting L s).1 := by
  obtain ⟨⟨-, -, hfda, -⟩, hp⟩ := h.config
  obtain ⟨hr, hr'⟩ := unsigned_mem hfda
  obtain ⟨htgt, htgt'⟩ := s32_mem h.stTgt
  obtain ⟨hamp, hamp'⟩ := unsigned_mem h.stAmp
  have hf := startingFreq_mem (hp s.misc.stSpeed) (t := s.elapsed s.stateEpoch) htgt htgt'
  have hramp := ramp_mem L s.cfg.rampType (t := s.elapsed s.stateEpoch)
    (unsigned (s.profiles.get s.misc.stSpeed).softStartMs) hamp (by omega)
  have hfda := fda_mem
    (startingFreq (s.profiles.get s.misc.stSpeed) (s32 s.latches.stTgt) (s.elapsed s.stateEpoch))
    (s32 s.latches.stTgt) hr hr' hramp.1
  exact ⟨by simp only [evalStarting]; omega, hfda.1, (hfda.2.trans hramp.2).trans hamp'⟩

/-- R735: the frequency while Running is the target's, or within the ends of the switch ramp. -/
theorem natAbs_runningFreq_le {tgt : Int} (htgt : tgt.natAbs ≤ 12000000) :
    (runningFreq tgt s).1.natAbs ≤ 12000000 := by
  have hfrom := h.swFrom
  have hto := s32_mem h.swTo
  unfold runningFreq
  split
  · dsimp only
    split
    · dsimp only; omega
    · have := lerp_mem (v0 := s32 s.latches.swFrom) (v1 := s32 s.latches.swTo)
        (t := s.elapsed s.latches.swEpoch) (T := unsigned s.cfg.swRampMs) (lo := -12000000)
        (hi := 12000000) (by omega) (by omega) (by omega) (by omega) (by omega)
      dsimp only
      omega
  · exact htgt

theorem driveInRange_evalRunning (k : Speed) :
    DriveInRange (evalRunning (targetFreq s k) (targetAmp s) s).1 := by
  obtain ⟨⟨-, -, hfda, -⟩, hp⟩ := h.config
  obtain ⟨-, -, -, -, -, -, -, -, -, -, -, ⟨-, hred⟩, -⟩ := hp s.status.speedIdx
  have htf := targetFreq_mem h.config k
  have hta := targetAmp_mem h.config
  have hf := natAbs_runningFreq_le h (tgt := targetFreq s k) (by omega)
  have hred := unsigned_mem hred
  have hpct := pctOf_mem hta.1 hred.1 hred.2
  have hr := unsigned_mem hfda
  unfold evalRunning
  dsimp only
  generalize ha : (if reductionLatched s = true then
    pctOf (targetAmp s) (unsigned (s.profiles.get s.status.speedIdx).redPct) else targetAmp s) = a
  have hmem : 0 ≤ a ∧ a ≤ 32768 := by
    rw [← ha]; split <;> omega
  have := fda_mem (runningFreq (targetFreq s k) s).1 (targetFreq s k) hr.1 hr.2 hmem.1
  exact ⟨hf, this.1, this.2.trans hmem.2⟩

/-- R737 to R739: the three brake modes. -/
theorem driveInRange_brakeDrive {t : Int} (T : Int) (ht : 0 ≤ t) :
    DriveInRange ⟨(brakeDrive s t T).1, (brakeDrive s t T).2, true⟩ := by
  obtain ⟨⟨-, -, -, -, -, -, hstart, hstop, -⟩, -⟩ := h.config
  obtain ⟨ha0, ha0'⟩ := unsigned_mem h.stopA0
  have hfade := lerp_mem (T := T) ht ha0 ha0' le_rfl (by omega)
  unfold brakeDrive
  cases s.cfg.brakeMode with
  | off => exact ⟨h.stopF0, hfade.1, hfade.2⟩
  | pulse =>
    have htgt := s32_mem h.stopTgt
    have htamp := unsigned_mem h.stopTamp
    refine ⟨by dsimp only; omega, ?_, ?_⟩ <;> dsimp only <;> split <;> omega
  | ramp =>
    obtain ⟨hstart, hstart'⟩ := unsigned_mem hstart
    obtain ⟨hstop, hstop'⟩ := unsigned_mem hstop
    have hf := lerp_mem (T := T) ht hstart hstart' hstop hstop'
    exact ⟨by dsimp only; omega, hfade.1, hfade.2⟩

theorem driveInRange_evalStopping : DriveInRange (evalStopping s).1 := by
  unfold evalStopping
  dsimp only
  split
  · have htgt := s32_mem h.stopTgt
    exact driveInRange_silent (by omega)
  · exact driveInRange_brakeDrive h _ (by omega)

/-- R700: every motor state asks for a drive in range. -/
theorem driveInRange_evalState (L : LutBits) : DriveInRange (evalState L s).1 := by
  cases hm : s.status.motor with
  | standby => rw [evalState_of_standby L hm]; exact driveInRange_evalIdle h _
  | stopped => rw [evalState_of_stopped L hm]; exact driveInRange_evalIdle h _
  | starting => rw [evalState_of_starting L hm]; exact driveInRange_evalStarting h L
  | running => rw [evalState_of_running L hm]; exact driveInRange_evalRunning h _
  | stopping => rw [evalState_of_stopping L hm]; exact driveInRange_evalStopping h

end

/-! ## What a drive stores (R750 to R753) -/

theorem DriveInRange.natAbs_freq_le {d : Drive} (hd : DriveInRange d) :
    (s32 (u32 d.f)).natAbs ≤ 12000000 := by
  have := hd.freq
  rwa [s32_u32 (by omega) (by omega)]

theorem DriveInRange.toNat_amp_le {d : Drive} (hd : DriveInRange d) :
    (BitVec.ofInt 16 d.a).toNat ≤ 32768 := by
  have := hd.nonneg
  have := hd.amp
  rw [BitVec.toNat_ofInt]
  omega

/-- R751: a block built from a drive in range and a legal profile. -/
theorem blockInRange_buildBlock {s : State} (hc : LegalConfig s.cfg) {d : Drive} (hd : DriveInRange d)
    {p : SpeedProfile} (hp : LegalProfile p) : BlockInRange (buildBlock s d p) := by
  obtain ⟨⟨-, hmode⟩, -⟩ := hc
  obtain ⟨-, -, -, -, -, -, -, -, -, -, -, -, -, halpha, halpha'⟩ := hp
  have hset : (p.alphaQ16.setWidth 16).toNat = p.alphaQ16.toNat := by
    rw [BitVec.toNat_setWidth]; omega
  have hpm : (s.cfg.phaseMode.setWidth 3).toNat ≤ 4 := by
    rw [BitVec.toNat_setWidth]; omega
  exact ⟨hd.toNat_amp_le, hd.natAbs_freq_le, hpm,
    .inr ⟨hset.symm ▸ halpha, hset.symm ▸ halpha'⟩, natAbs_phaseInc_le hd.freq⟩

namespace RangesHold

variable {s : State}

theorem publish (h : RangesHold s) {b : DdsBlock} (hb : BlockInRange b) : RangesHold (publish b s) := by
  rcases publish_cases b s with ⟨-, e⟩ | ⟨-, -, e⟩ | ⟨-, -, e⟩ <;> rw [e]
  · exact h
  · exact { h with blockA := hb }
  · exact { h with blockB := hb }

theorem writeStatusBus (h : RangesHold s) {d : Drive} (hd : DriveInRange d) :
    RangesHold (writeStatusBus d s) :=
  { h with curFreq := hd.natAbs_freq_le, curAmp := hd.toNat_amp_le }

/-! ## Shared sub-steps (R606, R619, R623, R703, R760) -/

theorem enter (h : RangesHold s) (m : MotorState) : RangesHold (s.enter m) := { h with }

theorem raise (h : RangesHold s) (e : StickyError) : RangesHold (raise e s) := by
  cases e <;> exact { h with }

/-- R760: the staircase engages at most PHASE_MODE relays. -/
theorem relayEval (h : RangesHold s) : RangesHold (relayEval s) := by
  obtain ⟨⟨⟨-, hmode⟩, -⟩, -⟩ := h.config
  exact { h with relayN := (relayN_relayEval_le s).trans hmode }

theorem doStart (h : RangesHold s) : RangesHold (doStart s) :=
  { h with stTgt := h.toNat_targetFreq_le _, stAmp := h.toNat_targetAmp_le, rtAcc := Nat.zero_le _ }

theorem changeSpeed (h : RangesHold s) (n : Speed) : RangesHold (changeSpeed n s) := by
  rcases changeSpeed_cases n s with ⟨-, e⟩ | ⟨-, -, -, e⟩ | ⟨-, -, e⟩ <;> rw [e]
  · exact h
  · exact { h with swFrom := h.curFreq, swTo := h.toNat_targetFreq_le n }
  · exact { h with }

theorem restoreDefaults (h : RangesHold s) : RangesHold (restoreDefaults s) :=
  { h with config := configLegal_default }

theorem bookTime (h : RangesHold s) : RangesHold (bookTime s) := { h with }

/-- R703: what stays in the accumulator is less than a second. -/
theorem countRuntime (h : RangesHold s) (dt : Nat) : RangesHold (countRuntime dt s) :=
  { h with
    rtAcc := by
      dsimp only [Machine.countRuntime]
      rw [BitVec.toNat_ofNat, Config.runtimeQuantumMs]
      omega }

theorem evalState (h : RangesHold s) (L : LutBits) : RangesHold (evalState L s).2 := by
  rcases evalState_cases L s with e | ⟨-, e⟩ | ⟨-, e⟩ | ⟨-, _, _, e⟩ | ⟨-, e⟩ <;> rw [e]
  · exact h
  · exact h.enter _
  · exact { h with }
  · exact { h with }
  · exact h.enter _

/-! ## The commands (R611 to R623) -/

/-- R611: INIT's boot state. -/
theorem bootState (h : RangesHold s) : RangesHold (bootState s) := by
  rcases bootState_cases s with ⟨-, e⟩ | ⟨-, -, e⟩ | ⟨-, -, e⟩ <;> rw [e]
  · exact h
  · exact h.enter _
  · exact (h.enter _).doStart

theorem initBody (h : RangesHold s) : RangesHold (initBody s) :=
  have hs : RangesHold { s with status.speedIdx := bootSpeed s.cfg, pitchRaw := 0 } :=
    { h with pitchRaw := (by decide : (s32 0).natAbs ≤ 5000) }
  { hs.bootState with }

/-- R750 to R753: the tail of UPDATE, from the state in which the motor state is evaluated. -/
theorem publishDrive (h : RangesHold s) (L : LutBits) :
    RangesHold (Machine.writeStatusBus (Machine.evalState L s).1
      (Machine.publish (buildBlock (Machine.evalState L s).2 (Machine.evalState L s).1
        (profileInUse (Machine.evalState L s).2)) (Machine.evalState L s).2)) :=
  have hd := driveInRange_evalState h L
  have hu := h.evalState L
  (hu.publish (blockInRange_buildBlock hu.config.1 hd (hu.config.2 _))).writeStatusBus hd

theorem updateBody (h : RangesHold s) (L : LutBits) : RangesHold (updateBody L s) := by
  by_cases hm : s.status.motor = .running
  · rw [updateBody_of_running L hm]
    exact (h.bookTime.countRuntime _).publishDrive L
  · rw [updateBody_of_not_running L hm]
    exact h.bookTime.publishDrive L

theorem startBody (h : RangesHold s) : RangesHold (startBody s) := by
  have hs : RangesHold { s with status.critMute := false } := { h with }
  rcases startBody_cases s with ⟨-, e⟩ | ⟨-, e⟩ | ⟨-, e⟩ <;> rw [e]
  · exact (hs.enter _).doStart
  · exact hs.doStart
  · exact hs

/-- R614: STOP latches the amplitude and frequency last driven, and the targets. -/
theorem stopBody (h : RangesHold s) : RangesHold (stopBody s) := by
  unfold Machine.stopBody
  split
  · have hamp : (s.curAmp.setWidth 32).toNat ≤ 32768 := by
      have := h.curAmp
      rw [BitVec.toNat_setWidth]
      omega
    exact { h with
      stopA0 := hamp, stopF0 := h.curFreq
      stopTgt := h.toNat_targetFreq_le _, stopTamp := h.toNat_targetAmp_le }
  · exact h

theorem toggleStandbyBody (h : RangesHold s) : RangesHold (toggleStandbyBody s) := by
  unfold Machine.toggleStandbyBody
  dsimp only
  split <;> exact { h with }

theorem wakeBody (h : RangesHold s) : RangesHold (wakeBody s) := by
  unfold Machine.wakeBody
  dsimp only
  split <;> exact { h with }

/-- R620, R621: a pitch within the clamp of SET_PITCH. -/
theorem setPitch (h : RangesHold s) {p : Int} (hp : -5000 ≤ p) (hp' : p ≤ 5000) :
    RangesHold { s with pitchRaw := u32 p } :=
  { h with pitchRaw := by dsimp only; rw [s32_u32 (by omega) (by omega)]; omega }

/-- R902: a report is displayed for at most 60 000 ms. -/
theorem recordError (h : RangesHold s) (k : ErrorKind) (crit : Bool) : RangesHold (recordError k crit s) :=
  { h with
    errMs := by
      obtain ⟨⟨-, -, -, -, -, -, -, -, -, -, -, herr⟩, -⟩ := h.config
      rw [recordError_errDisplayMs, displayMs]
      split
      · rw [BitVec.toNat_ofNat, Config.critDisplayMinMs]; omega
      · exact herr }

theorem reportErrorBody (h : RangesHold s) (kind : Nat) (crit : Bool) :
    RangesHold (reportErrorBody kind crit s) := by
  rcases reportErrorBody_cases kind crit s with ⟨-, e⟩ | ⟨k, -, ⟨-, e⟩ | ⟨-, e⟩⟩ <;> rw [e]
  · exact h.raise _
  · exact (h.recordError k crit).relayEval
  · exact (h.recordError k crit).restoreDefaults.relayEval

theorem exec (h : RangesHold s) {i : Instr} {t : State} (he : exec i s = .next t) : RangesHold t := by
  rcases exec_cases he with e | ⟨-, -, e⟩ | ⟨-, -, e⟩ | ⟨-, -, e⟩ | ⟨-, -, e⟩ | ⟨-, -, e⟩ | ⟨-, -, e⟩
    | ⟨k, -, -, e⟩ | ⟨-, -, e⟩ | ⟨p, -, hp, hp', -, e⟩ | ⟨k, c, -, e⟩ | ⟨-, e⟩ <;> rw [e]
  · exact h
  · exact h.initBody.relayEval
  · exact (h.updateBody _).relayEval
  · exact h.startBody.relayEval
  · exact h.stopBody.relayEval
  · exact h.toggleStandbyBody.relayEval
  · exact h.wakeBody.relayEval
  · exact (h.changeSpeed k).relayEval
  · exact (h.raise _).relayEval
  · exact (h.setPitch hp hp').relayEval
  · exact h.reportErrorBody k c
  · exact h.restoreDefaults.relayEval

/-! ## The agents and the block's step (R6, R430 to R445, R800, R801, R931) -/

theorem hostRead (h : RangesHold s) (off n : Nat) : RangesHold (hostRead off n s) := by
  rcases hostRead_eq off n s with e | e <;> rw [e] <;> exact { h with }

theorem writeReg (h : RangesHold s) (r : Reg) (v : Word) : RangesHold (writeReg r v s) := by
  have hc := configLegal_writeReg r v h.config
  rcases writeReg_cases r v s with ⟨-, e⟩ | ⟨g, -, e⟩ | ⟨k, f, -, e⟩ | e <;> rw [e] at hc ⊢ <;>
    exact { h with config := hc }

/-- R431: a REFILL copies a block, and makes none. -/
theorem refill (h : RangesHold s) (L : LutBits) (tab : FirTable) : RangesHold (refill L tab s) := by
  have hblock : ∀ b, b = s.ddsA ∨ b = s.ddsB → BlockInRange b := by
    rintro _ (rfl | rfl)
    · exact h.blockA
    · exact h.blockB
  exact refill_induct L tab s RangesHold fun a b _ _ _ _ _ _ ha hb =>
    { h with blockA := hblock a ha, blockB := hblock b hb }

theorem tick (h : RangesHold s) : RangesHold (tick s) := by
  rcases tick_cases s with ⟨-, e⟩ | ⟨-, e⟩ <;> rw [e] <;> exact { h with }

theorem agentStep (h : RangesHold s) {a : AgentStep} {t : State} (he : agentStep a s = .next t) :
    RangesHold t := by
  rcases agentStep_cases he with ⟨off, n, -, e⟩ | ⟨_, _, _, -, -, e⟩ | ⟨_, i, -, -, e⟩ | ⟨_, _, -, -, e⟩
    | ⟨_, _, v, r, -, -, -, e⟩ | ⟨-, -, e⟩ | ⟨-, -, e⟩ | ⟨k, -, -, e⟩ | ⟨-, e⟩
  · exact e ▸ h.hostRead off n
  · exact e ▸ h.raise _
  · exact h.exec e
  · exact e ▸ h.raise _
  · exact e ▸ h.writeReg r v
  · exact e ▸ h.refill _ _
  · exact e ▸ h.tick
  · exact e ▸ { h with }
  · exact e ▸ { h with }

end RangesHold

/-- R1004: the values right after reset are in range. -/
theorem valuesInRange_reset : ValuesInRange State.reset :=
  ⟨configLegal_default, by unfold AmplitudesInRange; decide, by unfold FrequenciesInRange; decide,
    by unfold CountsInRange; decide, by unfold BlockStepsInRange; decide, by unfold BlockStepsInRange; decide⟩

/-- Settles O56: a step is the watchdog's reset or one agent's step, and each keeps every range. -/
theorem storedValuesStayInRange : Obligations.StoredValuesStayInRange := by
  intro s t hs hstep
  rcases step_cases hstep with ⟨-, rfl⟩ | ⟨-, a, sch, n, hagent⟩
  · exact valuesInRange_reset
  · have h := (valuesInRange_iff s).1 hs
    have h' : RangesHold { s with schedule := sch, choices := n } := { h with }
    exact (valuesInRange_iff t).2 (h'.agentStep hagent)

end Sys2Proof.Machine
end

section
/-!
PROOFS. The sample memory of the engine (spec/10_state.md R116, R147, R150): only REFILL and TICK write the
filter states, buffer memory and the output words; the filters keep their histories within the bounds of
spec/41_filters.md R512; and a word of buffer memory or of an output is two compare values (R423).
-/

namespace Sys2Proof.Machine

open Sys2Proof

/-! ## Who writes the sample memory (R916) -/

/-- The filter states, buffer memory and both output words are the same in both states. -/
structure SamplesKept (s t : State) : Prop where
  filters : t.filters = s.filters
  mem     : t.mem = s.mem
  pwmOutA : t.pwmOutA = s.pwmOutA
  pwmOutB : t.pwmOutB = s.pwmOutB

theorem EngineKept.samplesKept {s t : State} (h : EngineKept s t) : SamplesKept s t := by
  obtain ⟨-, hmem, hfilters, -, houtA, houtB, -⟩ := h
  exact ⟨hfilters, hmem, houtA, houtB⟩

/-- Of the agents, only SYN and DMA write the sample memory. -/
theorem agentStep_samples {a : AgentStep} {s t : State} (h : agentStep a s = .next t) :
    SamplesKept s t ∨ t = refill Config.lutBits Config.firCoeff s ∨ t = tick s := by
  rcases agentStep_cases h with ⟨off, n, -, e⟩ | ⟨_, _, _, -, -, e⟩ | ⟨_, i, -, -, e⟩ | ⟨_, _, -, -, e⟩
    | ⟨_, _, v, r, -, -, -, e⟩ | ⟨-, -, e⟩ | ⟨-, -, e⟩ | ⟨k, -, -, e⟩ | ⟨-, e⟩
  · rcases hostRead_eq off n s with e' | e' <;> rw [e, e'] <;>
      exact .inl ⟨rfl, rfl, rfl, rfl⟩
  · exact .inl (e ▸ ⟨rfl, rfl, rfl, rfl⟩)
  · exact .inl (exec_engineKept e).samplesKept
  · exact .inl (e ▸ ⟨rfl, rfl, rfl, rfl⟩)
  · rcases writeReg_cases r v s with ⟨-, e'⟩ | ⟨_, -, e'⟩ | ⟨_, _, -, e'⟩ | e' <;> rw [e, e'] <;>
      exact .inl ⟨rfl, rfl, rfl, rfl⟩
  · exact .inr (.inl e)
  · exact .inr (.inr e)
  · exact .inl (e ▸ ⟨rfl, rfl, rfl, rfl⟩)
  · exact .inl (e ▸ ⟨rfl, rfl, rfl, rfl⟩)

/-- A step is the watchdog's reset, leaves the sample memory alone, or is a REFILL or a TICK of the state with
the schedule or the count of choices advanced. -/
theorem step_samples {s t : State} (h : step s = .next t) :
    t = wdtReset s ∨ SamplesKept s t ∨ ∃ sch n,
      t = refill Config.lutBits Config.firCoeff { s with schedule := sch, choices := n }
        ∨ t = tick { s with schedule := sch, choices := n } := by
  rcases step_cases h with ⟨-, e⟩ | ⟨-, a, sch, n, hagent⟩
  · exact .inl e
  · rcases agentStep_samples hagent with ⟨hfilters, hmem, houtA, houtB⟩ | e | e
    · exact .inr (.inl ⟨hfilters, hmem, houtA, houtB⟩)
    · exact .inr (.inr ⟨sch, n, .inl e⟩)
    · exact .inr (.inr ⟨sch, n, .inr e⟩)

/-! ## What REFILL and TICK write of it (R430, R440) -/

@[simp] theorem tick_filters (s : State) : (tick s).filters = s.filters := by
  rcases tick_cases s with ⟨-, e⟩ | ⟨-, e⟩ <;> rw [e]

@[simp] theorem tick_mem (s : State) : (tick s).mem = s.mem := by
  rcases tick_cases s with ⟨-, e⟩ | ⟨-, e⟩ <;> rw [e]

theorem tick_pwmOutA (s : State) :
    (tick s).pwmOutA = bufWord s .a s.bufs.playHalf s.bufs.tickPos.val := by
  rcases tick_cases s with ⟨-, e⟩ | ⟨-, e⟩ <;> rw [e]

theorem tick_pwmOutB (s : State) :
    (tick s).pwmOutB = bufWord s .b s.bufs.playHalf s.bufs.tickPos.val := by
  rcases tick_cases s with ⟨-, e⟩ | ⟨-, e⟩ <;> rw [e]

@[simp] theorem startConsumer_filters (s : State) : (startConsumer s).filters = s.filters := by
  rcases startConsumer_cases s with ⟨-, e⟩ | ⟨-, e⟩ <;> rw [e]

@[simp] theorem startConsumer_mem (s : State) : (startConsumer s).mem = s.mem := by
  rcases startConsumer_cases s with ⟨-, e⟩ | ⟨-, e⟩ <;> rw [e]

section
variable (L : LutBits) (tab : FirTable) (s : State)

@[simp] theorem refill_pwmOutA : (refill L tab s).pwmOutA = s.pwmOutA :=
  refill_induct L tab s (·.pwmOutA = s.pwmOutA) fun _ _ _ _ _ _ _ _ _ _ => rfl

@[simp] theorem refill_pwmOutB : (refill L tab s).pwmOutB = s.pwmOutB :=
  refill_induct L tab s (·.pwmOutB = s.pwmOutB) fun _ _ _ _ _ _ _ _ _ _ => rfl

/-- R430 to R432: a REFILL stores the words of one run of one of the two blocks, and keeps the filter states
that run leaves, from the old ones or from the reset ones (R431). -/
theorem refill_samples :
    ∃ S fs, (S = s.ddsA ∨ S = s.ddsB) ∧ (fs = s.filters ∨ fs = Vector.replicate 4 .zero)
      ∧ (refill L tab s).filters = (synthRun L tab S 256 s.masterPhase fs).filters
      ∧ (refill L tab s).mem
          = storeHalf s.mem s.bufs.nextFill (synthRun L tab S 256 s.masterPhase fs).words := by
  obtain ⟨S, fs, _, _, _, hS, hfs, -, -, -, e⟩ := refill_eq L tab s
  refine ⟨S, fs, ?_, ?_, by rw [e, startConsumer_filters], by rw [e, startConsumer_mem]⟩
  · rw [hS]
    unfold State.pendingBlock State.activeBlock
    cases s.status.pub <;> cases s.status.activeSel <;> simp
  · rw [hfs]
    split
    · exact .inr rfl
    · exact .inl rfl

end

/-! ## The filter histories (R147, R512) -/

/-- R512: one channel's histories are within their bounds. -/
structure ChannelInRange (ch : ChanFilter) : Prop where
  iirY    : (s32 ch.iirY).natAbs ≤ 511 * 65536
  firHist : ∀ k : Fin 8, (s32 ch.firHist[k]).natAbs ≤ 511

theorem filtersInRange_iff (s : State) : FiltersInRange s ↔ ∀ c : Fin 4, ChannelInRange s.filters[c] :=
  forall_congr' fun _ => ⟨fun ⟨hy, hk⟩ => ⟨hy, hk⟩, fun ⟨hy, hk⟩ => ⟨hy, hk⟩⟩

theorem channelInRange_zero : ChannelInRange .zero := ⟨by decide, by decide⟩

/-- R530: four reset channels are in range. -/
theorem channelInRange_replicate_zero (c : Fin 4) :
    ChannelInRange (Vector.replicate 4 ChanFilter.zero)[c] := by
  simpa using channelInRange_zero

/-- A nonnegative weight keeps the bounds of what it multiplies. -/
theorem mul_mem_of_natAbs_le {a x : Int} {b : Nat} (ha : 0 ≤ a) (hx : x.natAbs ≤ b) :
    -(a * b) ≤ a * x ∧ a * x ≤ a * b :=
  ⟨by rw [← mul_neg]; exact mul_le_mul_of_nonneg_left (by omega) ha,
    mul_le_mul_of_nonneg_left (by omega) ha⟩

/-- R420: an amplitude of at most 1 in Q1.15 keeps a sample within the sine table's bound. -/
theorem natAbs_scaledSample_le (L : LutBits) {S : DdsBlock} (hamp : S.amp.toNat ≤ 32768) (c : Fin 4)
    (ph : Word) : (scaledSample L S c ph).natAbs ≤ 511 := by
  have hs := interp_mem L (ph + channelOffset S c)
  have hmul := mul_mem_of_natAbs_le (a := (S.amp.toNat : Int)) (b := 511) (by omega)
    (show (interp L (ph + channelOffset S c)).natAbs ≤ 511 by omega)
  have := rhu_mem (a := S.amp.toNat * interp L (ph + channelOffset S c)) (lo := -511) (hi := 511) 15
    (by decide) (by omega) (by omega)
  unfold scaledSample
  omega

/-- R510, R512: an IIR step weighs a sample and a history, both in range, by `α` and `1 − α`. -/
theorem channelInRange_iirStep (alpha : BitVec 16) {x : Int} (hx : x.natAbs ≤ 511) {ch : ChanFilter}
    (h : ChannelInRange ch) : ChannelInRange (iirStep alpha x ch).2 := by
  refine ⟨?_, h.firHist⟩
  have ha := alpha.isLt
  have hx' := mul_mem_of_natAbs_le (a := (alpha.toNat : Int)) (by omega) hx
  have hy := mul_mem_of_natAbs_le (a := 65536 - (alpha.toNat : Int)) (by omega) h.iirY
  have hq := floorDiv_mem (a := (65536 - alpha.toNat) * s32 ch.iirY) (b := 65536)
    (lo := -((65536 - alpha.toNat) * 511)) (hi := (65536 - alpha.toNat) * 511)
    (by decide) (by omega) (by omega)
  unfold iirStep
  dsimp only
  rw [s32_u32 (by omega) (by omega)]
  omega

/-- R521: a FIR step stores the sample in one slot and keeps the others. -/
theorem channelInRange_firStep (tab : FirTable) (p : FirProfile) {x : Int} (hx : x.natAbs ≤ 511)
    {ch : ChanFilter} (h : ChannelInRange ch) : ChannelInRange (firStep tab p x ch).2 := by
  refine ⟨h.iirY, fun k => ?_⟩
  unfold firStep
  simp only [Fin.getElem_fin, Vector.getElem_set]
  split
  · rwa [s32_u32 (by omega) (by omega)]
  · exact h.firHist k

theorem channelInRange_filterStep (tab : FirTable) (S : DdsBlock) {x : Int} (hx : x.natAbs ≤ 511)
    {ch : ChanFilter} (h : ChannelInRange ch) : ChannelInRange (filterStep tab S x ch).2 := by
  unfold filterStep
  cases S.kind with
  | none => exact h
  | iir => exact channelInRange_iirStep S.alpha hx h
  | fir => exact channelInRange_firStep tab S.firp hx h

theorem channelInRange_synth (L : LutBits) (tab : FirTable) {S : DdsBlock} (hamp : S.amp.toNat ≤ 32768)
    (c : Fin 4) (ph : Word) {ch : ChanFilter} (h : ChannelInRange ch) :
    ChannelInRange (synth L tab S c ph ch).2 := by
  unfold synth
  split
  · exact channelInRange_filterStep tab S (natAbs_scaledSample_le L hamp c ph) h
  · exact h

/-- R430: the amplitudes of the blocks bound what the ticks of a REFILL leave in the filters. -/
theorem filtersInRange_refill (L : LutBits) (tab : FirTable) {s : State} (hA : s.ddsA.amp.toNat ≤ 32768)
    (hB : s.ddsB.amp.toNat ≤ 32768) (h : FiltersInRange s) : FiltersInRange (refill L tab s) := by
  obtain ⟨S, fs, hS, hfs, hfilters, -⟩ := refill_samples L tab s
  have hamp : S.amp.toNat ≤ 32768 := by
    rcases hS with rfl | rfl
    · exact hA
    · exact hB
  have hstart : ∀ c : Fin 4, ChannelInRange fs[c] := by
    rcases hfs with rfl | rfl
    · exact (filtersInRange_iff s).1 h
    · exact channelInRange_replicate_zero
  rw [filtersInRange_iff, hfilters]
  exact filters_synthRun_induct L tab S ChannelInRange
    (fun c ph _ hch => channelInRange_synth L tab hamp c ph hch) 256 s.masterPhase fs hstart

theorem FiltersInRange.congr {s t : State} (h : FiltersInRange s) (e : t.filters = s.filters) :
    FiltersInRange t := by
  unfold FiltersInRange
  rwa [e]

/-- Settles O57: only REFILL writes the filter histories, and its samples are in range. -/
theorem filterHistoriesStayInRange : Obligations.FilterHistoriesStayInRange := by
  intro s t hv h hstep
  obtain ⟨-, ⟨-, hA, hB, -⟩, -⟩ := hv
  rcases step_samples hstep with rfl | hkept | ⟨sch, n, rfl | rfl⟩
  · exact (filtersInRange_iff _).2 channelInRange_replicate_zero
  · exact h.congr hkept.filters
  · exact filtersInRange_refill _ _ hA hB h
  · exact h.congr (tick_filters _)

/-! ## The form of buffer memory and the layout of its words (R116, R150, R423) -/

/-- R423: a tick's two words have the layout of R150. -/
theorem layout_of_mem_words_synthRun (L : LutBits) (tab : FirTable) (S : DdsBlock) {n : Nat} {ph : Word}
    {fs : Vector ChanFilter 4} {w : Word × Word} (h : w ∈ (synthRun L tab S n ph fs).words) :
    w.1 &&& 0xFC00FC00#32 = 0 ∧ w.2 &&& 0xFC00FC00#32 = 0 := by
  obtain ⟨ph', fs', rfl⟩ := mem_words_synthRun L tab S n ph fs w h
  exact ⟨packWord_and _ _, packWord_and _ _⟩

theorem BufferLayout.congr {s t : State} (h : BufferLayout s) (e : t.mem = s.mem) : BufferLayout t := by
  unfold BufferLayout bufWord
  rwa [e]

/-- A memory in which nothing is listed has the layout: every word reads 0. -/
theorem bufferLayout_of_mem_nil {s : State} (h : s.mem = []) : BufferLayout s := by
  intro sl k j _
  simp [bufWord, h, Memory.readWord]

/-- R430: a REFILL writes laid-out words over one half and leaves the other half's words alone. -/
theorem bufferLayout_refill (L : LutBits) (tab : FirTable) {s : State} (h : BufferLayout s) :
    BufferLayout (refill L tab s) := by
  obtain ⟨S, fs, -, -, -, hmem⟩ := refill_samples L tab s
  have hlen := length_words_synthRun L tab S 256 s.masterPhase fs
  intro sl k j hj
  rw [bufWord, hmem]
  by_cases hk : k = s.bufs.nextFill
  · subst hk
    cases sl with
    | a =>
      rw [readWord_storeHalf_a _ _ _ hlen j hj]
      exact (layout_of_mem_words_synthRun L tab S (List.getElem_mem _)).1
    | b =>
      rw [readWord_storeHalf_b _ _ _ hlen j hj]
      exact (layout_of_mem_words_synthRun L tab S (List.getElem_mem _)).2
  · rw [readWord_storeHalf_of_ne _ hk _ hlen sl j hj]
    exact h sl k j hj

theorem OutputLayout.congr {s t : State} (h : OutputLayout s) (ha : t.pwmOutA = s.pwmOutA)
    (hb : t.pwmOutB = s.pwmOutB) : OutputLayout t := by
  unfold OutputLayout
  rwa [ha, hb]

theorem outputLayout_reset : OutputLayout State.reset := by
  unfold OutputLayout
  decide

/-- R440: what TICK plays are buffer words. -/
theorem outputLayout_tick {s : State} (h : BufferLayout s) : OutputLayout (tick s) := by
  have hpos := s.bufs.tickPos.isLt
  rw [OutputLayout, tick_pwmOutA, tick_pwmOutB]
  exact ⟨h _ _ _ hpos, h _ _ _ hpos⟩

/-- Log entry 8: every step keeps the canonical form of buffer memory. -/
theorem step_keeps_mem_wf {s t : State} (hstep : step s = .next t) (h : s.mem.wf = true) :
    t.mem.wf = true := by
  rcases step_samples hstep with rfl | hkept | ⟨sch, n, rfl | rfl⟩
  · exact reset_mem_wf
  · rwa [hkept.mem]
  · obtain ⟨_, _, -, -, -, hmem⟩ :=
      refill_samples Config.lutBits Config.firCoeff { s with schedule := sch, choices := n }
    rw [hmem]
    exact wf_storeHalf _ _ _ h
  · rwa [tick_mem]

/-- R150: every step keeps the layout of the buffer words. -/
theorem step_keeps_bufferLayout {s t : State} (hstep : step s = .next t) (h : BufferLayout s) :
    BufferLayout t := by
  rcases step_samples hstep with rfl | hkept | ⟨sch, n, rfl | rfl⟩
  · exact bufferLayout_of_mem_nil rfl
  · exact h.congr hkept.mem
  · exact bufferLayout_refill _ _ h
  · exact h.congr (tick_mem _)

/-- R116: every step keeps the layout of the output words, where buffer memory has it. -/
theorem step_keeps_outputLayout {s t : State} (hstep : step s = .next t) (hbuf : BufferLayout s)
    (h : OutputLayout s) : OutputLayout t := by
  rcases step_samples hstep with rfl | hkept | ⟨sch, n, rfl | rfl⟩
  · exact outputLayout_reset.congr rfl rfl
  · exact h.congr hkept.pwmOutA hkept.pwmOutB
  · exact h.congr (refill_pwmOutA ..) (refill_pwmOutB ..)
  · exact outputLayout_tick hbuf

/-- Settles O58: of the steps, REFILL stores words of two compare values and TICK copies them out. -/
theorem bufferMemoryKeepsItsForm : Obligations.BufferMemoryKeepsItsForm := fun _ _ hstep =>
  ⟨step_keeps_mem_wf hstep,
    fun hbuf => ⟨step_keeps_bufferLayout hstep hbuf, step_keeps_outputLayout hstep hbuf⟩⟩

end Sys2Proof.Machine
end

section
/-!
PROOFS. The word STATUS reads as (spec/10_state.md R103): as a number it is the sum of its fields at their
places, none of which overlap, so each field is a quotient and a remainder of it.
-/

namespace Sys2Proof.Machine

open Sys2Proof

/-! ## Fields of a word (R9) -/

/-- Bits `lo` to `lo + n − 1` of a word, as a number. -/
theorem toNat_extractLsb'_eq (w : Word) (lo n : Nat) :
    (w.extractLsb' lo n).toNat = w.toNat / 2 ^ lo % 2 ^ n := by
  rw [BitVec.extractLsb'_toNat, Nat.shiftRight_eq_div_pow]

/-- Bit `i` of a word is the one-bit field that stands there. -/
theorem getLsbD_of_div_mod {w : Word} {i : Nat} {b : Bool} (h : w.toNat / 2 ^ i % 2 = b.toNat) :
    w.getLsbD i = b := by
  rw [BitVec.getLsbD, Nat.testBit_eq_decide_div_mod_eq, h]
  cases b <;> rfl

/-- The bits above a word's value read 0. -/
theorem getLsbD_of_toNat_lt {w : Word} {k i : Nat} (h : w.toNat < 2 ^ k) (hi : k ≤ i) :
    w.getLsbD i = false :=
  Nat.testBit_lt_two_pow (h.trans_le (Nat.pow_le_pow_right (by decide) hi))

/-! ## The fields of STATUS (R103) -/

/-- R103: a legal read of STATUS. -/
theorem memRead_status (s : State) : memRead 0x008 4 s = (statusWord s.status, s) := rfl

theorem MotorState.code_le (m : MotorState) : m.code ≤ 4 := by cases m <;> decide

theorem Speed.code_le (k : Speed) : k.code ≤ 2 := by cases k <;> decide

theorem Speed.code_eq_speedIndex (k : Speed) : k.code = speedIndex k := by cases k <;> rfl

/-- R103: every field of STATUS is the quotient at its lowest bit, modulo its width, and none stands at bit 17
or above. -/
theorem statusWord_fields (t : Status) :
    let n := (statusWord t).toNat
    n / 2 ^ 0 % 2 ^ 3 = t.motor.code ∧ n / 2 ^ 3 % 2 = t.sysinit.toNat ∧ n / 2 ^ 4 % 2 = t.pub.toNat
      ∧ n / 2 ^ 5 % 2 = t.hasCrit.toNat ∧ n / 2 ^ 6 % 2 = t.critMute.toNat
      ∧ n / 2 ^ 7 % 2 = t.underrun.toNat ∧ n / 2 ^ 8 % 2 = t.buserr.toNat
      ∧ n / 2 ^ 9 % 2 = t.cmderr.toNat ∧ n / 2 ^ 10 % 2 ^ 2 = t.speedIdx.code
      ∧ n / 2 ^ 12 % 2 = t.swActive.toNat ∧ n / 2 ^ 13 % 2 = t.ampReduced.toNat
      ∧ n / 2 ^ 14 % 2 = t.activeSel.toNat ∧ n / 2 ^ 15 % 2 = t.started.toNat
      ∧ n / 2 ^ 16 % 2 = t.wdtArmed.toNat ∧ n < 2 ^ 17 := by
  have := t.motor.code_le
  have := t.speedIdx.code_le
  have := t.sysinit.toNat_le
  have := t.pub.toNat_le
  have := t.hasCrit.toNat_le
  have := t.critMute.toNat_le
  have := t.underrun.toNat_le
  have := t.buserr.toNat_le
  have := t.cmderr.toNat_le
  have := t.swActive.toNat_le
  have := t.ampReduced.toNat_le
  have := t.activeSel.toNat_le
  have := t.started.toNat_le
  have := t.wdtArmed.toNat_le
  simp only [statusWord, BitVec.toNat_ofNat, bit, field]
  refine ⟨?_, ?_, ?_, ?_, ?_, ?_, ?_, ?_, ?_, ?_, ?_, ?_, ?_, ?_, ?_⟩ <;> omega

/-- Settles O29: a read of STATUS answers the sum of its fields, and each stands at its bits. -/
theorem statusFieldsStandAtTheirBits : Obligations.StatusFieldsStandAtTheirBits := by
  intro s
  obtain ⟨hmotor, hsysinit, hpub, hcrit, hmute, hunderrun, hbuserr, hcmderr, hspeed, hsw, hred, hsel,
    hstarted, hwdt, hlt⟩ := statusWord_fields s.status
  refine ⟨statusWord s.status, memRead_status s, ?_, getLsbD_of_div_mod hsysinit, getLsbD_of_div_mod hpub,
    getLsbD_of_div_mod hcrit, getLsbD_of_div_mod hmute, getLsbD_of_div_mod hunderrun,
    getLsbD_of_div_mod hbuserr, getLsbD_of_div_mod hcmderr, ?_, getLsbD_of_div_mod hsw,
    getLsbD_of_div_mod hred, getLsbD_of_div_mod hsel, getLsbD_of_div_mod hstarted, getLsbD_of_div_mod hwdt,
    fun i hi => getLsbD_of_toNat_lt hlt hi⟩
  · rw [toNat_extractLsb'_eq, hmotor]
    cases s.status.motor <;> rfl
  · rw [toNat_extractLsb'_eq, hspeed, Speed.code_eq_speedIndex]

end Sys2Proof.Machine
end

section
/-!
PROOFS. The buffer protocol (spec/20_memory.md R228): each half has one holder, and every agent's step that
touches the halves hands a half from its holder to the next, so the number of holders never changes while no
TICK underruns.
-/

namespace Sys2Proof.Machine

open Sys2Proof

/-! ## The only holder of a half -/

/-- The consumer, once started, holds the half it plays. -/
theorem halfHolders_of_played {s : State} {h : Half} (hstarted : s.status.started = true)
    (hplay : s.bufs.playHalf = h) :
    halfHolders s h
      = (s.bufs.free.get h).toNat + (s.bufs.ready.get h).toNat + (s.bufs.irq.get h).toNat + 1 := by
  simp [halfHolders, hstarted, hplay]

section
variable {s : State} {h : Half} (hone : halfHolders s h = 1)
include hone

/-- A half that SYN may fill is neither ready nor played. -/
theorem not_ready_and_not_played_of_free (hfree : s.bufs.free.get h = true) :
    s.bufs.ready.get h = false ∧ ¬(s.status.started = true ∧ s.bufs.playHalf = h) := by
  constructor
  · rw [halfHolders, hfree, Bool.toNat_true] at hone
    rw [← Bool.toNat_eq_zero]
    omega
  · rintro ⟨hstarted, hplay⟩
    rw [halfHolders_of_played hstarted hplay, hfree, Bool.toNat_true] at hone
    omega

/-- A half whose completion is pending is not free. -/
theorem not_free_of_irq (hirq : s.bufs.irq.get h = true) : s.bufs.free.get h = false := by
  rw [halfHolders, hirq, Bool.toNat_true] at hone
  rw [← Bool.toNat_eq_zero]
  omega

/-- A half that is played has no completion pending. -/
theorem not_irq_of_played (hstarted : s.status.started = true) (hplay : s.bufs.playHalf = h) :
    s.bufs.irq.get h = false := by
  rw [halfHolders_of_played hstarted hplay] at hone
  rw [← Bool.toNat_eq_zero]
  omega

end

/-! ## The holders across a step -/

/-- What the number of holders and the contract depend on is the same in both states. -/
structure HalvesKept (s t : State) : Prop where
  bufs     : t.bufs = s.bufs
  started  : t.status.started = s.status.started
  underrun : t.status.underrun = s.status.underrun

theorem EngineKept.halvesKept {s t : State} (h : EngineKept s t) : HalvesKept s t := by
  obtain ⟨hbufs, -, -, -, -, -, -, -, -, hstarted, hunderrun, -⟩ := h
  exact ⟨hbufs, hstarted, hunderrun⟩

theorem HalvesKept.halfHolders_eq {s t : State} (e : HalvesKept s t) (h : Half) :
    halfHolders t h = halfHolders s h := by
  rw [halfHolders, halfHolders, e.bufs, e.started]

/-- Of the agents, only SYN, DMA and ISR touch the halves, where they are enabled. -/
theorem agentStep_halves {a : AgentStep} {s t : State} (h : agentStep a s = .next t) :
    HalvesKept s t
      ∨ (s.bufs.free.get s.bufs.nextFill = true ∧ t = refill Config.lutBits Config.firCoeff s)
      ∨ (s.status.started = true ∧ t = tick s)
      ∨ ∃ k, s.bufs.irq.get k = true ∧ t = isr k s := by
  rcases agentStep_cases h with ⟨off, n, -, e⟩ | ⟨_, _, _, -, -, e⟩ | ⟨_, i, -, -, e⟩ | ⟨_, _, -, -, e⟩
    | ⟨_, _, v, r, -, -, -, e⟩ | ⟨-, hen, e⟩ | ⟨-, hen, e⟩ | ⟨k, -, hen, e⟩ | ⟨-, e⟩
  · rcases hostRead_eq off n s with e' | e' <;> rw [e, e'] <;> exact .inl ⟨rfl, rfl, rfl⟩
  · exact .inl (e ▸ ⟨rfl, rfl, rfl⟩)
  · exact .inl (exec_engineKept e).halvesKept
  · exact .inl (e ▸ ⟨rfl, rfl, rfl⟩)
  · rcases writeReg_cases r v s with ⟨-, e'⟩ | ⟨_, -, e'⟩ | ⟨_, _, -, e'⟩ | e' <;> rw [e, e'] <;>
      exact .inl ⟨rfl, rfl, rfl⟩
  · rw [refillEnabled, Bool.and_eq_true] at hen
    exact .inr (.inl ⟨hen.2, e⟩)
  · exact .inr (.inr (.inl ⟨hen, e⟩))
  · exact .inr (.inr (.inr ⟨k, hen, e⟩))
  · exact .inl (e ▸ ⟨rfl, rfl, rfl⟩)

/-- R433: the start of the consumer hands half 0 from the ready mark to the consumer. -/
theorem halfHolders_startConsumer (s : State) (h : Half) :
    halfHolders (startConsumer s) h = halfHolders s h := by
  rcases startConsumer_cases s with ⟨⟨hstarted, h0, h1⟩, e⟩ | ⟨-, e⟩ <;> rw [e]
  cases h <;> simp [halfHolders, HalfFlags.get, hstarted, h0, h1, Nat.add_right_comm]

/-- R430: a REFILL hands its half from SYN's free signal to the ready mark. -/
theorem halfHolders_refill (L : LutBits) (tab : FirTable) {s : State}
    (hfree : s.bufs.free.get s.bufs.nextFill = true) (hready : s.bufs.ready.get s.bufs.nextFill = false)
    (h : Half) : halfHolders (refill L tab s) h = halfHolders s h := by
  obtain ⟨_, _, _, _, _, -, -, -, -, -, e⟩ := refill_eq L tab s
  rw [e, halfHolders_startConsumer]
  by_cases hh : h = s.bufs.nextFill
  · simp [halfHolders, hh, hfree, hready]
  · simp [halfHolders, HalfFlags.get_set, hh]

/-- R440: a TICK that does not underrun keeps the played half with the consumer, or hands it to the pending
completion and takes the partner from the ready mark. -/
theorem halfHolders_tick {s : State} (hstarted : s.status.started = true)
    (hirq : s.bufs.irq.get s.bufs.playHalf = false) (hkept : ContractKept (tick s)) (h : Half) :
    halfHolders (tick s) h = halfHolders s h := by
  rcases tick_cases s with ⟨-, e⟩ | ⟨-, e⟩ <;> rw [e] at hkept ⊢
  · rfl
  · have hready : s.bufs.ready.get s.bufs.playHalf.other = true := by
      simpa using (Bool.or_eq_false_iff.1 hkept).2
    by_cases hh : h = s.bufs.playHalf
    · simp [halfHolders, hh, hstarted, hirq]
    · rw [Half.eq_other_of_ne hh]
      simp [halfHolders, hstarted, hready, Nat.add_right_comm]

/-- R445: the completion handler hands its half from the pending completion to SYN's free signal. -/
theorem halfHolders_isr {s : State} {k : Half} (hirq : s.bufs.irq.get k = true)
    (hfree : s.bufs.free.get k = false) (h : Half) : halfHolders (isr k s) h = halfHolders s h := by
  unfold isr
  by_cases hh : h = k
  · simp [halfHolders, hh, hirq, hfree, Nat.add_comm]
  · simp [halfHolders, HalfFlags.get_set, hh]

/-! ## The contract across a step (R905, R908) -/

@[simp] theorem refill_status_underrun (L : LutBits) (tab : FirTable) (s : State) :
    (refill L tab s).status.underrun = s.status.underrun :=
  refill_induct L tab s (·.status.underrun = s.status.underrun) fun _ _ _ _ _ _ _ _ _ _ => rfl

/-- R908: a TICK does not clear UNDERRUN. -/
theorem contractKept_of_tick {s : State} (h : ContractKept (tick s)) : ContractKept s := by
  rcases tick_cases s with ⟨-, e⟩ | ⟨-, e⟩ <;> rw [e] at h
  · exact h
  · exact (Bool.or_eq_false_iff.1 h).1

/-- R228: an agent's step keeps the protocol: it keeps the number of holders of each half. -/
theorem bufferProtocol_agentStep {a : AgentStep} {s t : State} (hp : BufferProtocol s)
    (h : agentStep a s = .next t) : BufferProtocol t := by
  intro hkept k
  rcases agentStep_halves h with e | ⟨hfree, rfl⟩ | ⟨hstarted, rfl⟩ | ⟨j, hirq, rfl⟩
  · rw [e.halfHolders_eq]
    exact hp (e.underrun.symm.trans hkept) k
  · have hone := hp ((refill_status_underrun ..).symm.trans hkept)
    rw [halfHolders_refill _ _ hfree (not_ready_and_not_played_of_free (hone _) hfree).1]
    exact hone k
  · have hone := hp (contractKept_of_tick hkept)
    rw [halfHolders_tick hstarted (not_irq_of_played (hone _) hstarted rfl) hkept]
    exact hone k
  · have hone := hp hkept
    rw [halfHolders_isr hirq (not_free_of_irq (hone j) hirq)]
    exact hone k

/-- R1004: after a reset SYN holds both halves. -/
theorem bufferProtocol_wdtReset (s : State) : BufferProtocol (wdtReset s) := fun _ h => by cases h <;> rfl

/-- Settles O53: a step is the watchdog's reset or one agent's step, and each keeps one holder a half. -/
theorem eachHalfKeepsOneHolder : Obligations.EachHalfKeepsOneHolder := by
  intro s t hs hstep
  rcases step_cases hstep with ⟨-, rfl⟩ | ⟨-, a, sch, n, hagent⟩
  · exact bufferProtocol_wdtReset s
  · exact bufferProtocol_agentStep (s := { s with schedule := sch, choices := n }) hs hagent

/-! ## The half the DMA plays -/

theorem startConsumer_of_started {s : State} (h : s.status.started = true) : startConsumer s = s := by
  rcases startConsumer_cases s with ⟨⟨hnot, -⟩, -⟩ | ⟨-, e⟩
  · exact absurd (h.symm.trans hnot) (by decide)
  · exact e

/-- R433: only the start of the consumer sets the played half. -/
theorem refill_playHalf_of_started (L : LutBits) (tab : FirTable) {s : State}
    (h : s.status.started = true) : (refill L tab s).bufs.playHalf = s.bufs.playHalf := by
  obtain ⟨_, _, _, _, _, -, -, -, -, -, e⟩ := refill_eq L tab s
  rw [e, startConsumer_of_started]
  exact h

/-- R430: a REFILL leaves the words of the half it does not fill alone. -/
theorem bufWord_refill_of_ne (L : LutBits) (tab : FirTable) {s : State} {h : Half}
    (hne : h ≠ s.bufs.nextFill) (sl : Slice) {j : Nat} (hj : j < 256) :
    bufWord (refill L tab s) sl h j = bufWord s sl h j := by
  obtain ⟨_, _, -, -, -, hmem⟩ := refill_samples L tab s
  rw [bufWord, hmem, readWord_storeHalf_of_ne _ hne _ (length_words_synthRun ..) sl j hj, bufWord]

/-- Settles O54: a half SYN may fill is SYN's alone, so it is not the one the DMA plays. -/
theorem refillNeverWritesThePlayedHalf : Obligations.RefillNeverWritesThePlayedHalf := by
  intro L tab s hp hkept hfree hstarted
  have hne : s.bufs.nextFill ≠ s.bufs.playHalf := fun h =>
    (not_ready_and_not_played_of_free (hp hkept _) hfree).2 ⟨hstarted, h.symm⟩
  exact ⟨hne, refill_playHalf_of_started L tab hstarted,
    fun sl _ hj => bufWord_refill_of_ne L tab hne.symm sl hj⟩

end Sys2Proof.Machine
end

section
/-!
PROOFS. The register space (spec/20_memory.md R202 to R206, spec/44_register_access.md R800 to R803): where each
register stands, the words the registers read as, the frame of a configuration write, and an illegal
access.
-/

namespace Sys2Proof.Machine

open Sys2Proof

/-! ## Accesses that reach a register, and others -/

/-- R800: a read that reaches a register answers its value and changes nothing. -/
theorem memRead_of_target {off : Nat} {r : Reg} {s : State} {w : Word} (h : readTarget off 4 = some r)
    (hw : readReg r s = w) : memRead off 4 s = (w, s) := by
  rw [memRead, h, ← hw]

/-- Settles O47: an illegal access reaches no register. -/
theorem illegalAccessOnlySetsBuserr : Obligations.IllegalAccessOnlySetsBuserr := by
  intro off n v s h
  have hnone := readTarget_of_illegal h
  exact ⟨by rw [memRead, hnone]; rfl, by rw [memWrite, hnone]; rfl⟩

/-! ## Where the configuration registers stand (R160, R170, R204) -/

theorem globalRegs_nodup : globalRegs.Nodup := by decide

theorem profileRegs_nodup : profileRegs.Nodup := by decide

theorem code_speedAt {n : Nat} (h : n < 3) : (speedAt n).code = n := by
  interval_cases n <;> rfl

/-- R160, R170: the offset of a configuration register, and 0, which holds none, for any other register. -/
def configOffset : Reg → Nat
  | .globalCfg g => 0x200 + 4 * globalRegs.idxOf g
  | .profile k f => 0x300 + 0x40 * k.code + 4 * profileRegs.idxOf f
  | _ => 0

/-- A register found from 0x200 to 0x3FF stands at its configuration offset. -/
theorem configOffset_of_regAt {off : Nat} {r : Reg} (hlo : 0x200 ≤ off) (hhi : off ≤ 0x3FF)
    (halign : off % 4 = 0) (h : regAt off = some r) : configOffset r = off := by
  simp (disch := omega) only [regAt, if_neg, if_pos] at h
  split at h
  · obtain ⟨g, hg, rfl⟩ := Option.map_eq_some_iff.1 h
    obtain ⟨hlt, rfl⟩ := List.getElem?_eq_some_iff.1 hg
    rw [configOffset, globalRegs_nodup.idxOf_getElem]
    omega
  split at h
  · cases h
  split at h
  · obtain ⟨f, hf, rfl⟩ := Option.map_eq_some_iff.1 h
    obtain ⟨hlt, rfl⟩ := List.getElem?_eq_some_iff.1 hf
    rw [configOffset, profileRegs_nodup.idxOf_getElem, code_speedAt (by omega)]
    omega
  · cases h

/-- A configuration register: a global one (R160) or one of a profile (R170). -/
def IsConfigReg (r : Reg) : Prop := (∃ g, r = .globalCfg g) ∨ ∃ k f, r = .profile k f

/-- Every configuration offset that is not reserved holds a configuration register. -/
theorem readTarget_of_config {off : Nat} (hlo : 0x200 ≤ off) (hhi : off ≤ 0x3FF) (halign : off % 4 = 0)
    (hres : ¬reservedOffset off) :
    ∃ r, readTarget off 4 = some r ∧ configOffset r = off ∧ IsConfigReg r := by
  obtain ⟨r, hr, hreg⟩ := readTarget_of_mapped halign (by omega) hres
  have hoff := configOffset_of_regAt hlo hhi halign hreg
  refine ⟨r, hr, hoff, ?_⟩
  cases r with
  | globalCfg g => exact .inl ⟨g, rfl⟩
  | profile k f => exact .inr ⟨k, f, rfl⟩
  | _ => exact absurd (show 0 = off from hoff) (by omega)

/-! ## The frame of a configuration write (R206, R801) -/

/-- R810: a write to a global register leaves every other register of the configuration alone. -/
theorem readReg_writeGlobal_of_ne {g : GlobalReg} {r : Reg} (hne : r ≠ .globalCfg g) (hr : IsConfigReg r)
    (v : Word) (s : State) :
    readReg r (writeReg (.globalCfg g) v s) = readReg r s := by
  rcases hr with ⟨g', rfl⟩ | ⟨k, f, rfl⟩
  · exact readGlobal_writeGlobal_of_ne (fun e => hne (congrArg _ e)) v s.cfg
  · rfl

/-- R811: a write to a profile's register leaves every other register of the configuration alone. -/
theorem readReg_writeProfile_of_ne {k : Speed} {f : ProfileReg} {r : Reg} (hne : r ≠ .profile k f)
    (hr : IsConfigReg r) (v : Word) (s : State) :
    readReg r (writeReg (.profile k f) v s) = readReg r s := by
  rcases hr with ⟨g, rfl⟩ | ⟨k', f', rfl⟩
  · rfl
  · simp only [readReg, writeReg, Profiles.get_set]
    split
    · next hk =>
      subst hk
      exact readProfile_writeProfile_of_ne (fun e => hne (congrArg _ e)) v _
    · rfl

/-- R206: a write to a configuration register completes, changes configuration only, and leaves every other
configuration register alone. -/
theorem memWrite_config {off : Nat} {r : Reg} (htarget : readTarget off 4 = some r)
    (hr : IsConfigReg r) (v : Word) (s : State) :
    memWrite off 4 v s = .next (writeReg r v s)
      ∧ (∀ r', r' ≠ r → IsConfigReg r' → readReg r' (writeReg r v s) = readReg r' s)
      ∧ { writeReg r v s with cfg := s.cfg, profiles := s.profiles } = s
      ∧ SameMemory s (writeReg r v s) := by
  rw [memWrite, htarget]
  rcases hr with ⟨g, rfl⟩ | ⟨k, f, rfl⟩
  · exact ⟨rfl, fun _ hne hr' => readReg_writeGlobal_of_ne hne hr' v s, rfl, fun _ => rfl⟩
  · exact ⟨rfl, fun _ hne hr' => readReg_writeProfile_of_ne hne hr' v s, rfl, fun _ => rfl⟩

/-- Settles O46: different configuration offsets hold different registers, and a write reaches one. -/
theorem configWritesTouchOneRegister : Obligations.ConfigWritesTouchOneRegister := by
  refine ⟨fun s v off hlo hhi halign hres => ?_, fun _ _ => rfl⟩
  obtain ⟨r, htarget, hoff, hr⟩ := readTarget_of_config hlo hhi halign hres
  obtain ⟨hwrite, hother, hframe, hmem⟩ := memWrite_config htarget hr v s
  refine ⟨writeReg r v s, hwrite, fun off' hlo' hhi' halign' hres' hne => ?_, hframe, hmem⟩
  obtain ⟨r', htarget', hoff', hr'⟩ := readTarget_of_config hlo' hhi' halign' hres'
  have hrne : r' ≠ r := fun e => hne (by rw [← hoff', e, hoff])
  rw [memRead_of_target htarget' rfl, memRead_of_target htarget' rfl]
  exact hother r' hrne hr'

/-! ## The words the registers read as (R9, R106 to R146) -/

/-- R9: a field counts its value in units of its lowest bit. -/
theorem field_eq_mul (lo v : Nat) : field lo v = 2 ^ lo * v := mul_comm _ _

theorem curAmpWord_eq (amp : BitVec 16) (en : Bool) :
    curAmpWord amp en = BitVec.ofNat 32 (amp.toNat + 2 ^ 16 * en.toNat) := by
  simp only [curAmpWord, bit, field_eq_mul, pow_zero, one_mul]

theorem errStatusWord_eq (e : ErrStatus) :
    errStatusWord e = BitVec.ofNat 32 (e.kind.code + 2 ^ 3 * e.crit.toNat + 2 ^ 4 * e.valid.toNat) := by
  simp only [errStatusWord, bit, field_eq_mul, pow_zero, one_mul]

theorem bufStateWord_eq (b : BufState) :
    bufStateWord b = BitVec.ofNat 32 (b.ready.h0.toNat + 2 * b.ready.h1.toNat + 2 ^ 2 * b.free.h0.toNat
      + 2 ^ 3 * b.free.h1.toNat + 2 ^ 4 * b.irq.h0.toNat + 2 ^ 5 * b.irq.h1.toNat
      + 2 ^ 6 * b.playHalf.toNat + 2 ^ 7 * b.nextFill.toNat + 2 ^ 8 * b.tickPos.val) := by
  simp only [bufStateWord, bit, field_eq_mul, pow_zero, pow_one, one_mul]

theorem smMiscWord_eq (m : SmMisc) :
    smMiscWord m = BitVec.ofNat 32 (speedIndex m.stSpeed + 2 ^ 2 * m.relayPrev.toNat
      + 2 ^ 3 * m.graceDone.toNat + 2 ^ 4 * m.relayN.toNat) := by
  simp only [smMiscWord, bit, field_eq_mul, pow_zero, one_mul, Speed.code_eq_speedIndex]

theorem ctrlWord_eq (b : DdsBlock) :
    ctrlWord b = BitVec.ofNat 32 (b.amp.toNat + 2 ^ 16 * b.en.toNat + 2 ^ 17 * b.kind.code
      + 2 ^ 19 * firpCode b.firp + 2 ^ 21 * b.pm.toNat) := by
  simp only [ctrlWord, bit, field_eq_mul, pow_zero, one_mul]

theorem firPtrWord_eq (fs : Vector ChanFilter 4) :
    firPtrWord fs = BitVec.ofNat 32 (fs[0].firPtr.val + 2 ^ 4 * fs[1].firPtr.val
      + 2 ^ 8 * fs[2].firPtr.val + 2 ^ 12 * fs[3].firPtr.val) := by
  simp only [firPtrWord, field_eq_mul, pow_zero, one_mul]

theorem readGlobal_rampType (c : GlobalConfig) :
    readGlobal .rampType c = match c.rampType with | .linear => 0 | .sCurve => 1 := by
  rw [readGlobal]
  cases c.rampType <;> rfl

theorem readGlobal_smoothSw (c : GlobalConfig) :
    readGlobal .smoothSw c = BitVec.ofNat 32 c.smoothSw.toNat := by
  simp only [readGlobal, bit, field_eq_mul, pow_zero, one_mul]

theorem readGlobal_brakeMode (c : GlobalConfig) :
    readGlobal .brakeMode c = match c.brakeMode with | .off => 0 | .pulse => 1 | .ramp => 2 := by
  rw [readGlobal]
  cases c.brakeMode <;> rfl

theorem readGlobal_relayCfg (c : GlobalConfig) :
    readGlobal .relayCfg c = BitVec.ofNat 32 (c.activeHigh.toNat + 2 * c.linkStandby.toNat
      + 2 ^ 2 * c.linkStartstop.toNat) := by
  simp only [readGlobal, bit, field_eq_mul, pow_zero, pow_one, one_mul]

theorem readGlobal_bootCfg (c : GlobalConfig) :
    readGlobal .bootCfg c = BitVec.ofNat 32 (c.bootSpeed.code + 2 ^ 2 * c.en78.toNat
      + 2 ^ 3 * c.autoBoot.toNat + 2 ^ 4 * c.autoStart.toNat + 2 ^ 8 * speedIndex c.lastSpeed) := by
  simp only [readGlobal, bit, field_eq_mul, pow_zero, one_mul, Speed.code_eq_speedIndex]

theorem readProfile_filter (p : SpeedProfile) :
    readProfile .filter p = BitVec.ofNat 32 (p.filterKind.code + 2 ^ 4 * firpCode p.firp) := by
  simp only [readProfile, field_eq_mul, pow_zero, one_mul]

/-! ## The registers at their offsets (R204) -/

/-- R140, R141: the eight words of a block or view, from the offset of its first. -/
theorem memRead_of_mem_blockMap {base : Nat} {v : DdsView}
    (hv : ∀ w : Fin 8, readTarget (base + 4 * w.val) 4 = some (.dds v w)) (s : State) :
    ∀ r ∈ blockMap base (viewedBlock v s), memRead r.1 4 s = (r.2, s) := by
  simp only [blockMap, List.forall_mem_cons]
  exact ⟨memRead_of_target (hv 0) rfl, memRead_of_target (hv 1) rfl, memRead_of_target (hv 2) rfl,
    memRead_of_target (hv 3) rfl, memRead_of_target (hv 4) rfl, memRead_of_target (hv 5) rfl,
    memRead_of_target (hv 6) (ctrlWord_eq _), memRead_of_target (hv 7) rfl, nofun⟩

/-- R170: the fifteen registers of a profile, from the offset of its first. -/
theorem memRead_of_mem_profileMap {base : Nat} {k : Speed}
    (hk : ∀ i : Fin 15, readTarget (base + 4 * i.val) 4 = some (.profile k profileRegs[i])) (s : State) :
    ∀ r ∈ profileMap base (s.profiles.get k), memRead r.1 4 s = (r.2, s) := by
  simp only [profileMap, List.forall_mem_cons]
  exact ⟨memRead_of_target (hk 0) rfl, memRead_of_target (hk 1) rfl, memRead_of_target (hk 2) rfl,
    memRead_of_target (hk 3) rfl, memRead_of_target (hk 4) rfl, memRead_of_target (hk 5) rfl,
    memRead_of_target (hk 6) rfl, memRead_of_target (hk 7) rfl, memRead_of_target (hk 8) rfl,
    memRead_of_target (hk 9) rfl, memRead_of_target (hk 10) rfl, memRead_of_target (hk 11) rfl,
    memRead_of_target (hk 12) rfl, memRead_of_target (hk 13) (readProfile_filter _),
    memRead_of_target (hk 14) rfl, nofun⟩

/-- R101 to R120: the registers of the block's state. -/
theorem memRead_of_mem_statusMap (s : State) : ∀ r ∈ statusMap s, memRead r.1 4 s = (r.2, s) := by
  simp only [statusMap, List.forall_mem_cons]
  exact ⟨rfl, rfl, rfl, memRead_of_target (r := .curAmp) rfl (curAmpWord_eq _ _), rfl, rfl,
    memRead_of_target (r := .errStatus) rfl (errStatusWord_eq _), rfl, rfl, rfl,
    memRead_of_target (r := .bufState) rfl (bufStateWord_eq _), rfl, rfl, rfl, rfl, rfl, rfl, rfl, rfl, rfl,
    rfl, rfl, rfl, rfl, rfl, rfl, rfl, rfl, rfl,
    memRead_of_target (r := .smMisc) rfl (smMiscWord_eq _), rfl, nofun⟩

/-- R140 to R146: the blocks, their views, and the filters' histories and indices. -/
theorem memRead_of_mem_engineMap (s : State) : ∀ r ∈ engineMap s, memRead r.1 4 s = (r.2, s) := by
  simp only [engineMap, List.forall_mem_append, List.forall_mem_cons]
  exact ⟨⟨⟨⟨memRead_of_mem_blockMap (v := .blockA) (by decide) s,
    memRead_of_mem_blockMap (v := .blockB) (by decide) s⟩,
    memRead_of_mem_blockMap (v := .active) (by decide) s⟩,
    memRead_of_mem_blockMap (v := .pending) (by decide) s⟩,
    rfl, rfl, rfl, rfl, memRead_of_target (r := .firPtr) rfl (firPtrWord_eq _), nofun⟩

/-- R160, R170: the configuration registers. -/
theorem memRead_of_mem_configMap (s : State) : ∀ r ∈ configMap s, memRead r.1 4 s = (r.2, s) := by
  simp only [configMap, List.forall_mem_append, List.forall_mem_cons]
  exact ⟨⟨⟨⟨rfl, rfl, memRead_of_target (r := .globalCfg .rampType) rfl (readGlobal_rampType _), rfl,
    memRead_of_target (r := .globalCfg .smoothSw) rfl (readGlobal_smoothSw _), rfl,
    memRead_of_target (r := .globalCfg .brakeMode) rfl (readGlobal_brakeMode _), rfl, rfl, rfl, rfl,
    memRead_of_target (r := .globalCfg .relayCfg) rfl (readGlobal_relayCfg _), rfl, rfl,
    memRead_of_target (r := .globalCfg .bootCfg) rfl (readGlobal_bootCfg _), rfl, rfl, nofun⟩,
    memRead_of_mem_profileMap (k := .rpm33) (by decide) s⟩,
    memRead_of_mem_profileMap (k := .rpm45) (by decide) s⟩,
    memRead_of_mem_profileMap (k := .rpm78) (by decide) s⟩

/-- R147: the FIR slots, eight words a channel from 0x120. -/
theorem readTarget_firHist (c : Fin 4) (k : Fin 8) :
    readTarget (0x120 + 0x20 * c.val + 4 * k.val) 4 = some (.firHist c k) := by
  revert c k
  decide

/-- R150, R204: the words of the `q`-th 0x400 bytes of the buffer window. -/
theorem readTarget_buffer {q j : Nat} (hq : q < 4) (hj : j < 256) :
    readTarget (0x1000 + 0x400 * q + 4 * j) 4
      = some (.buf (bufQuarter q).1 (bufQuarter q).2 ⟨j, hj⟩) := by
  have hlegal : legalAccess (0x1000 + 0x400 * q + 4 * j) 4 = true :=
    (legalAccess_iff _ _).2 ⟨rfl, by omega, by omega⟩
  have hquarter : (0x1000 + 0x400 * q + 4 * j - 0x1000) / 0x400 = q := by omega
  have hword : Fin.ofNat 256 ((0x1000 + 0x400 * q + 4 * j) % 0x400 / 4) = ⟨j, hj⟩ :=
    Fin.ext (show _ % 256 = j by omega)
  generalize hoff : 0x1000 + 0x400 * q + 4 * j = off at *
  rw [readTarget, if_pos hlegal]
  simp (disch := omega) only [regAt, if_neg, if_pos, hquarter, hword]

/-- R150: the buffer words stand at their buffer addresses. -/
theorem readTarget_bufAddr (sl : Slice) (h : Half) {j : Nat} (hj : j < 256) :
    readTarget (bufAddr sl h j) 4 = some (.buf sl h ⟨j, hj⟩) := by
  cases sl <;> cases h
  · exact readTarget_buffer (q := 0) (by decide) hj
  · exact readTarget_buffer (q := 1) (by decide) hj
  · exact readTarget_buffer (q := 2) (by decide) hj
  · exact readTarget_buffer (q := 3) (by decide) hj

/-- Settles O48: every mapped offset reaches a register, and those of the maps reach the registers whose words
the maps list. -/
theorem registerReadsHaveNoSideEffect : Obligations.RegisterReadsHaveNoSideEffect := by
  refine ⟨fun off s halign hle hres => ?_, fun s => ⟨rfl, memRead_of_mem_statusMap s,
    memRead_of_mem_engineMap s, memRead_of_mem_configMap s,
    fun c k => memRead_of_target (readTarget_firHist c k) rfl, fun sl h j hj => ?_⟩⟩
  · obtain ⟨r, htarget, -⟩ := readTarget_of_mapped halign hle hres
    rw [memRead_of_target htarget rfl]
    exact ⟨rfl, r, htarget, rfl⟩
  · have hread : memRead (bufAddr sl h j) 4 s = (bufWord s sl h j, s) :=
      memRead_of_target (readTarget_bufAddr sl h hj) rfl
    cases sl <;> cases h <;> exact hread

end Sys2Proof.Machine
end

section
/-!
PROOFS. The decoder and the encoder (spec/30_encoding.md R300 to R311): the fields of a word as arithmetic, the
command a word decodes to said once as an equivalence, and from it that decoding undoes encoding, that it is
total and that it looks at the named bits alone.
-/

namespace Sys2Proof

/-! ## The fields of a word (R300, R301) -/

theorem opcodeOf_eq_div (w : Word) : opcodeOf w = w.toNat / 2 ^ 24 := by
  rw [opcodeOf, Machine.toNat_extractLsb'_eq]
  omega

theorem speedField_eq_mod (w : Word) : speedField w = w.toNat % 2 ^ 2 := by
  rw [speedField, Machine.toNat_extractLsb'_eq, pow_zero, Nat.div_one]

theorem kindField_eq_mod (w : Word) : kindField w = w.toNat % 2 ^ 3 := by
  rw [kindField, Machine.toNat_extractLsb'_eq, pow_zero, Nat.div_one]

theorem critField_eq_decide (w : Word) : critField w = decide (w.toNat / 2 ^ 3 % 2 = 1) := by
  rw [critField, BitVec.getLsbD, Nat.testBit_eq_decide_div_mod_eq]

theorem pitchField_eq_bmod (w : Word) : pitchField w = (w.toNat : Int).bmod (2 ^ 16) := by
  rw [pitchField, BitVec.toInt_eq_toNat_bmod, Machine.toNat_extractLsb'_eq, pow_zero, Nat.div_one,
    Int.natCast_mod]
  exact Int.emod_bmod _ _

/-- KIND and CRIT are the low three of OPERAND's low four bits and the top one. -/
theorem kindField_and_critField_congr {w v : Word} (h : w.extractLsb' 0 4 = v.extractLsb' 0 4) :
    kindField w = kindField v ∧ critField w = critField v := by
  have hmod : w.toNat % 2 ^ 4 = v.toNat % 2 ^ 4 := by
    simpa only [Machine.toNat_extractLsb'_eq, pow_zero, Nat.div_one] using congrArg BitVec.toNat h
  rw [kindField_eq_mod, kindField_eq_mod, critField_eq_decide, critField_eq_decide]
  exact ⟨by omega, decide_eq_decide.2 (by omega)⟩

/-! ## The command a word decodes to (R302, R303, R304) -/

/-- R301: the named operand bits of the word `w` hold the command's operands. -/
def Instr.OperandsIn (w : Word) : Instr → Prop
  | .setSpeed speed => speedField w = speed
  | .setPitch pitch => pitchField w = pitch
  | .reportError kind crit => kindField w = kind ∧ critField w = crit
  | _ => True

/-- R302, R303: OPCODE selects the row and the named operand bits the operands; nothing else counts. -/
theorem decode_eq_ok_iff (w : Word) (i : Instr) :
    decode w = .ok i ↔ opcodeOf w = i.opcode ∧ i.OperandsIn w := by
  constructor
  · intro h
    unfold decode at h
    split at h <;> cases h <;> refine ⟨‹_›, ?_⟩
    case h_9 => exact rfl
    case h_10 => exact rfl
    case h_12 => exact ⟨rfl, rfl⟩
    all_goals trivial
  · rintro ⟨hop, hoperands⟩
    cases i with
    | setSpeed speed => cases hoperands; rw [decode, hop]; rfl
    | setPitch pitch => cases hoperands; rw [decode, hop]; rfl
    | reportError kind crit => obtain ⟨rfl, rfl⟩ := hoperands; rw [decode, hop]; rfl
    | _ => rw [decode, hop]; rfl

/-- R304: the OPCODEs from 0x0D on are reserved. -/
theorem decode_of_reserved {w : Word} (h : 0x0D ≤ opcodeOf w) :
    decode w = .error (.reservedOpcode (opcodeOf w)) := by
  unfold decode
  split
  case h_14 => rfl
  all_goals omega

/-- R303: every OPCODE below is a command's. -/
theorem exists_decode_eq_ok {w : Word} (h : opcodeOf w ≤ 0x0C) : ∃ i, decode w = .ok i := by
  unfold decode
  generalize opcodeOf w = op at *
  interval_cases op <;> exact ⟨_, rfl⟩

/-- R301: the operands a word holds fit their fields. -/
theorem Instr.wellFormed_of_operandsIn {w : Word} {i : Instr} (h : i.OperandsIn w) : i.wellFormed = true := by
  cases i with
  | setSpeed speed =>
    cases h
    exact decide_eq_true (by rw [speedField_eq_mod]; omega)
  | setPitch pitch =>
    cases h
    have hlo := BitVec.le_toInt (w.extractLsb' 0 16)
    have hhi := BitVec.toInt_lt (x := w.extractLsb' 0 16)
    exact decide_eq_true (by rw [pitchField]; omega)
  | reportError kind crit =>
    obtain ⟨rfl, rfl⟩ := h
    exact decide_eq_true (by rw [kindField_eq_mod]; omega)
  | _ => rfl

/-! ## The word a command encodes to (R300, R311) -/

/-- R300, R303: every command's operand fits below its OPCODE. -/
theorem operandFits_all (i : Instr) : Laws.OperandFits.Statement i := by
  cases i with
  | nop => exact Laws.OperandFits.nop
  | init => exact Laws.OperandFits.init
  | update => exact Laws.OperandFits.update
  | start => exact Laws.OperandFits.start
  | stop => exact Laws.OperandFits.stop
  | toggleStandby => exact Laws.OperandFits.toggleStandby
  | wake => exact Laws.OperandFits.wake
  | cycleSpeed => exact Laws.OperandFits.cycleSpeed
  | setSpeed speed => exact Laws.OperandFits.setSpeed speed
  | setPitch pitch => exact Laws.OperandFits.setPitch pitch
  | resetPitch => exact Laws.OperandFits.resetPitch
  | reportError kind crit => exact Laws.OperandFits.reportError kind crit
  | loadDefaults => exact Laws.OperandFits.loadDefaults

section
variable {i : Instr} (h : i.wellFormed = true)
include h

theorem toNat_encode : (encode i).toNat = i.opcode * 2 ^ 24 + i.operand := by
  obtain ⟨hoperand, hopcode⟩ := operandFits_all i h
  rw [encode, BitVec.toNat_ofNat]
  omega

theorem opcodeOf_encode : opcodeOf (encode i) = i.opcode := by
  obtain ⟨hoperand, -⟩ := operandFits_all i h
  rw [opcodeOf_eq_div, toNat_encode h]
  omega

/-- R311: the encoder puts each operand where the decoder looks for it. -/
theorem operandsIn_encode : i.OperandsIn (encode i) := by
  have hword := toNat_encode h
  cases i with
  | setSpeed speed =>
    have hspeed : speed ≤ 3 := of_decide_eq_true h
    rw [Instr.OperandsIn, speedField_eq_mod, hword, Instr.opcode, Instr.operand]
    omega
  | setPitch pitch =>
    have hpitch : -32768 ≤ pitch ∧ pitch ≤ 32767 := of_decide_eq_true h
    rw [Instr.OperandsIn, pitchField_eq_bmod, hword, Instr.opcode, Instr.operand, Int.bmod_def]
    omega
  | reportError kind crit =>
    have hkind : kind ≤ 7 := of_decide_eq_true h
    rw [Instr.OperandsIn, kindField_eq_mod, critField_eq_decide, hword, Instr.opcode, Instr.operand]
    cases crit with
    | false =>
      rw [if_neg Bool.false_ne_true]
      exact ⟨by omega, decide_eq_false (by omega)⟩
    | true =>
      rw [if_pos rfl]
      exact ⟨by omega, decide_eq_true (by omega)⟩
  | _ => trivial

end

/-- Settles O3: the encoded word has the command's OPCODE, and its operands stand in the named bits. -/
theorem commandsDecodeFromTheirWords : Obligations.CommandsDecodeFromTheirWords := fun i h =>
  (decode_eq_ok_iff (encode i) i).2 ⟨opcodeOf_encode h, operandsIn_encode h⟩

/-! ## What decoding depends on (R302, R306) -/

section
variable {w v : Word} (hop : opcodeOf w = opcodeOf v)
  (hspeed : opcodeOf w = 0x08 → w.extractLsb' 0 2 = v.extractLsb' 0 2)
  (hpitch : opcodeOf w = 0x09 → w.extractLsb' 0 16 = v.extractLsb' 0 16)
  (herror : opcodeOf w = 0x0B → w.extractLsb' 0 4 = v.extractLsb' 0 4)
include hop hspeed hpitch herror

/-- R302: words equal in OPCODE and in the bits it names decode alike. -/
theorem decode_congr : decode w = decode v := by
  rcases Nat.lt_or_ge 0x0C (opcodeOf w) with hreserved | hcommand
  · rw [decode_of_reserved hreserved, decode_of_reserved (hop ▸ hreserved), hop]
  · obtain ⟨i, hi⟩ := exists_decode_eq_ok hcommand
    obtain ⟨hopcode, hoperands⟩ := (decode_eq_ok_iff w i).1 hi
    rw [hi, eq_comm, decode_eq_ok_iff]
    refine ⟨hop ▸ hopcode, ?_⟩
    cases i with
    | setSpeed speed => exact (congrArg BitVec.toNat (hspeed hopcode)).symm.trans hoperands
    | setPitch pitch => exact (congrArg BitVec.toInt (hpitch hopcode)).symm.trans hoperands
    | reportError kind crit =>
      obtain ⟨hkind, hcrit⟩ := hoperands
      obtain ⟨hkind', hcrit'⟩ := kindField_and_critField_congr (herror hopcode)
      exact ⟨hkind'.symm.trans hkind, hcrit'.symm.trans hcrit⟩
    | _ => trivial

end

/-- Settles O2: twenty closed words, whose OPCODEs and named operand bits are evaluated. -/
theorem writtenWordsDecode : Obligations.WrittenWordsDecode := by
  unfold Obligations.WrittenWordsDecode
  decide

end Sys2Proof
end

section
/-!
PROOFS. Where the block goes on (spec/30_encoding.md R306, R310, spec/00_scope.md R6): a bus write of any word
answers a next state, an agent's step does exactly where the agent is enabled, and the block's step is
that of the scheduled agent or of one chosen among the enabled.
-/

namespace Sys2Proof.Machine

open Sys2Proof

/-! ## HOST's writes (R306, R801) -/

/-- R600: a word written to CMD is executed. -/
theorem memWrite_cmd (w : Word) (s : State) : memWrite 0x004 4 w s = execWord w s := rfl

theorem execWord_next (w : Word) (s : State) : ∃ t, execWord w s = .next t := by
  rcases execWord_cases w s with ⟨i, -, e⟩ | ⟨-, -, e⟩
  · exact e ▸ exec_next i s
  · exact ⟨_, e⟩

theorem memWrite_next (off n : Nat) (v : Word) (s : State) : ∃ t, memWrite off n v s = .next t := by
  rcases memWrite_cases off n v s with ⟨-, e⟩ | ⟨-, -, e⟩ | ⟨_, -, -, e⟩
  · exact ⟨_, e⟩
  · exact e ▸ execWord_next v s
  · exact ⟨_, e⟩

/-- Settles O4: OPCODE alone says whether a word is a command, whose operands then come from its fields, and
every write answers a next state. -/
theorem everyWordIsACommandOrReserved : Obligations.EveryWordIsACommandOrReserved := by
  refine fun w => ⟨fun hcommand => ?_, decode_of_reserved, memWrite_next 0x004 4 w⟩
  obtain ⟨i, hi⟩ := exists_decode_eq_ok hcommand
  obtain ⟨hopcode, hoperands⟩ := (decode_eq_ok_iff w i).1 hi
  exact ⟨i, hi, Instr.wellFormed_of_operandsIn hoperands, hopcode.symm⟩

/-- Settles O5: the two words decode alike, and a write to CMD depends on its word's decoding only. -/
theorem unnamedOperandBitsAreIgnored : Obligations.UnnamedOperandBitsAreIgnored := by
  intro w v hop hspeed hpitch herror
  have hdecode := decode_congr hop hspeed hpitch herror
  refine ⟨hdecode, fun s => ?_⟩
  rw [memWrite_cmd, memWrite_cmd, execWord, execWord, hdecode]

/-! ## Where each agent has a step (R430, R440, R445, R920) -/

theorem refillEnabled_iff (s : State) :
    refillEnabled s = true ↔ s.status.sysinit = true ∧ s.bufs.free.get s.bufs.nextFill = true := by
  rw [refillEnabled, Bool.and_eq_true]

/-- A step behind a guard goes on where the guard holds, and faults elsewhere. -/
theorem guarded_next_or_fault {b : Bool} {p : Prop} [Decidable p] (h : b = true ↔ p) (t : State) (f : Fault) :
    if p then ∃ u, (if b then Host.Outcome.next t else .fault f : Result) = .next u
      else (if b then Host.Outcome.next t else .fault f : Result) = .fault f := by
  by_cases hp : p
  · rw [if_pos hp, if_pos (h.2 hp)]
    exact ⟨t, rfl⟩
  · rw [if_neg hp, if_neg fun hb => hp (h.1 hb)]

/-- R6: an enabled agent's step answers a next state. -/
theorem agentStep_next_of_enabled {a : AgentStep} {s : State} (h : agentEnabled a s = true) :
    ∃ t, agentStep a s = .next t := by
  cases a with
  | hostRead off n => exact ⟨_, rfl⟩
  | hostWrite off n v => exact memWrite_next off n v s
  | refill => exact ⟨_, if_pos h⟩
  | tick => exact ⟨_, if_pos h⟩
  | isr k => exact ⟨_, if_pos h⟩
  | clk => exact ⟨_, rfl⟩

/-- Whether an agent is enabled does not depend on the count of choices. -/
theorem agentEnabled_choices (a : AgentStep) (s : State) (n : Nat) :
    agentEnabled a { s with choices := n } = agentEnabled a s := by
  cases a <;> rfl

/-- R6: the free choice is an enabled step. -/
theorem agentEnabled_freeChoice (s : State) : agentEnabled (freeChoice s) s = true := by
  unfold freeChoice
  split
  · assumption
  · rfl

/-! ## The block's step (R6, R931, R1012) -/

theorem wdtDue_eq_false {s : State} (h : ¬ResetDue s) : wdtDue s = false :=
  Bool.eq_false_iff.2 fun hdue => h ((wdtDue_iff s).1 hdue)

/-- The step where nothing is scheduled and the watchdog is not due. -/
theorem step_of_schedule_nil {s : State} (hd : ¬ResetDue s) (hs : s.schedule = []) :
    step s = agentStep (freeChoice s) { s with choices := s.choices + 1 } := by
  unfold step
  rw [if_neg (by simp [wdtDue_eq_false hd]), hs]

/-- R1012: with nothing scheduled the block goes on. -/
theorem step_next_of_schedule_nil {s : State} (hs : s.schedule = []) : ∃ t, step s = .next t := by
  by_cases hd : ResetDue s
  · exact ⟨wdtReset s, by rw [step, if_pos ((wdtDue_iff s).2 hd)]⟩
  · rw [step_of_schedule_nil hd hs]
    exact agentStep_next_of_enabled ((agentEnabled_choices _ s _).trans (agentEnabled_freeChoice s))

/-- Settles O8: the step is the scheduled agent's, which goes on exactly where its guard holds, and the free
choice's where nothing is scheduled. -/
theorem stepGoesOnWhereEnabled : Obligations.StepGoesOnWhereEnabled := by
  refine ⟨fun s hs => ?_, fun s off n v => ⟨rfl, rfl⟩, fun s a rest hd hs => ?_⟩
  · obtain ⟨t, ht⟩ := step_next_of_schedule_nil hs
    exact ⟨t, ht, fun hd => step_of_schedule_nil hd hs ▸ ht⟩
  · have hstep := step_of_schedule (wdtDue_eq_false hd) hs
    refine ⟨hstep, ?_⟩
    rw [hstep]
    cases a with
    | hostRead off n => exact agentStep_next_of_enabled rfl
    | hostWrite off n v => exact agentStep_next_of_enabled rfl
    | refill => exact guarded_next_or_fault (refillEnabled_iff _) _ _
    | tick => exact guarded_next_or_fault Iff.rfl _ _
    | isr h => exact guarded_next_or_fault Iff.rfl _ _
    | clk => exact agentStep_next_of_enabled rfl

end Sys2Proof.Machine
end

section
/-!
PROOFS. The sine table and the phase steps (spec/40_dds_engine.md R400 to R402, R410, R411): the fraction
`sine511` as a partial sum of the sine's series and its distance to the real sine, the table's symmetries, the
interpolation between two entries, and the increments and offsets as rounded shares of a turn.
-/

namespace Sys2Proof.Machine

open Sys2Proof

/-! ## The sine's series (R400, log entry 7) -/

/-- The partial sum of the sine's series, of its first `n` terms. -/
noncomputable def sineSum (n : ℕ) (x : ℝ) : ℝ :=
  ∑ j ∈ Finset.range n, (-1) ^ j * x ^ (2 * j + 1) / (2 * j + 1).factorial

theorem mul_I_pow_even (x : ℝ) (j : ℕ) :
    ((x : ℂ) * Complex.I) ^ (2 * j) = (((-1) ^ j * x ^ (2 * j) : ℝ) : ℂ) := by
  rw [mul_pow, pow_mul Complex.I, Complex.I_sq]
  push_cast
  ring

/-- The even terms of the series of `exp (x * I)` are real. -/
theorem im_exp_term_even (x : ℝ) (j : ℕ) :
    (((x : ℂ) * Complex.I) ^ (2 * j) / (2 * j).factorial).im = 0 := by
  rw [mul_I_pow_even, ← Complex.ofReal_natCast, ← Complex.ofReal_div, Complex.ofReal_im]

/-- The odd terms of the series of `exp (x * I)` are the sine's terms, times `I`. -/
theorem im_exp_term_odd (x : ℝ) (j : ℕ) :
    (((x : ℂ) * Complex.I) ^ (2 * j + 1) / (2 * j + 1).factorial).im
      = (-1) ^ j * x ^ (2 * j + 1) / (2 * j + 1).factorial := by
  have hterm : ((x : ℂ) * Complex.I) ^ (2 * j + 1) / (2 * j + 1).factorial
      = (((-1) ^ j * x ^ (2 * j + 1) / (2 * j + 1).factorial : ℝ) : ℂ) * Complex.I := by
    rw [pow_succ, mul_I_pow_even]
    push_cast
    ring
  rw [hterm, Complex.im_ofReal_mul, Complex.I_im, mul_one]

theorem im_sum_exp_terms (n : ℕ) (x : ℝ) :
    (∑ m ∈ Finset.range (2 * n + 1), ((x : ℂ) * Complex.I) ^ m / m.factorial).im = sineSum n x := by
  induction n with
  | zero => simp [sineSum]
  | succ n ih =>
    rw [show 2 * (n + 1) + 1 = 2 * n + 1 + 1 + 1 by ring, Finset.sum_range_succ, Finset.sum_range_succ,
      Complex.add_im, Complex.add_im, ih, im_exp_term_odd, show 2 * n + 1 + 1 = 2 * (n + 1) by ring,
      im_exp_term_even, add_zero, sineSum, sineSum, Finset.sum_range_succ]

/-- The remainder of the sine's series is at most twice the next term. -/
theorem abs_sin_sub_sineSum_le {x : ℝ} {n : ℕ} (hx : |x| ≤ n + 1) :
    |Real.sin x - sineSum n x| ≤ |x| ^ (2 * n + 1) / (2 * n + 1).factorial * 2 := by
  have hnorm : ‖(x : ℂ) * Complex.I‖ = |x| := by simp
  have hbound := Complex.exp_bound' (x := x * Complex.I) (n := 2 * n + 1) (by
    rw [hnorm, div_le_iff₀ (by positivity)]
    push_cast
    linarith)
  have him := (Complex.abs_im_le_norm _).trans hbound
  rwa [Complex.sub_im, Complex.exp_ofReal_mul_I_im, im_sum_exp_terms, hnorm] at him

/-! ## The fraction `sine511` -/

/-- What the fraction `sineTail` stands for: `1 − y/c₁·(1 − y/c₂·(…))`. -/
noncomputable def hornerTail (y : ℝ) (cs : List ℤ) : ℝ := 
  cs.foldr (fun (c : ℤ) (r : ℝ) => 1 - y / c * r) 1

theorem sineTail_den_pos {n2 d2 : ℤ} (hd : 0 < d2) {cs : List ℤ} (hcs : ∀ c ∈ cs, 0 < c) :
    0 < (sineTail n2 d2 cs).2 := by
  induction cs with
  | nil => exact Int.one_pos
  | cons c cs ih =>
    obtain ⟨hc, hcs⟩ := List.forall_mem_cons.1 hcs
    exact mul_pos (mul_pos hc hd) (ih hcs)

theorem sineTail_ratio {n2 d2 : ℤ} (hd : 0 < d2) {cs : List ℤ} (hcs : ∀ c ∈ cs, 0 < c) :
    ((sineTail n2 d2 cs).1 : ℝ) / (sineTail n2 d2 cs).2 = hornerTail (n2 / d2) cs := by
  induction cs with
  | nil => simp [sineTail, hornerTail]
  | cons c cs ih =>
    obtain ⟨hc, hcs⟩ := List.forall_mem_cons.1 hcs
    have ht : ((sineTail n2 d2 cs).2 : ℝ) ≠ 0 := Int.cast_ne_zero.2 (sineTail_den_pos hd hcs).ne'
    have hc' : (c : ℝ) ≠ 0 := Int.cast_ne_zero.2 hc.ne'
    have hd' : (d2 : ℝ) ≠ 0 := Int.cast_ne_zero.2 hd.ne'
    calc ((sineTail n2 d2 (c :: cs)).1 : ℝ) / (sineTail n2 d2 (c :: cs)).2
        = 1 - n2 / d2 / c * ((sineTail n2 d2 cs).1 / (sineTail n2 d2 cs).2) := by
          simp only [sineTail]
          push_cast
          field_simp
      _ = hornerTail (n2 / d2) (c :: cs) := by rw [ih hcs]; rfl

/-- The model's coefficients are the sine's, up to `x^13/13!`. -/
theorem mul_hornerTail_sineCoeffs (x : ℝ) : x * hornerTail (x ^ 2) sineCoeffs = sineSum 7 x := by
  simp only [hornerTail, List.foldr, sineSum, Finset.sum_range_succ, Finset.sum_range_zero,
    Nat.factorial]
  push_cast
  ring

/-- The angle `sine511 k` is evaluated at: `π·k/8192` with the model's fraction for π. -/
noncomputable def tableAngle (k : ℕ) : ℝ := k * (piNum / piDen) / 8192

theorem sine511_den_pos (k : ℕ) : 0 < (sine511 k).2 :=
  mul_pos (by decide) (sineTail_den_pos (by decide) (by decide))

theorem sine511_ratio (k : ℕ) : ((sine511 k).1 : ℝ) / (sine511 k).2 = 511 * sineSum 7 (tableAngle k) := by
  have hratio := sineTail_ratio (n2 := (k * piNum) * (k * piNum)) (d2 := (8192 * piDen) * (8192 * piDen))
    (cs := sineCoeffs) (by decide) (by decide)
  have hy : (((k * piNum) * (k * piNum) : ℤ) : ℝ) / ((8192 * piDen) * (8192 * piDen) : ℤ)
      = tableAngle k ^ 2 := by
    rw [tableAngle]
    push_cast
    ring
  rw [hy] at hratio
  rw [← mul_hornerTail_sineCoeffs, ← hratio]
  simp only [sine511, tableAngle, Config.lutPeak]
  push_cast
  ring

/-- The model's fraction for π is exact enough for every angle of the first quarter. -/
theorem abs_tableAngle_sub_le {k : ℕ} (hk : k ≤ 4096) :
    |tableAngle k - Real.pi * k / 8192| ≤ 1 / 1000000000 := by
  have hk' : (k : ℝ) / 8192 ≤ 1 := by
    have : (k : ℝ) ≤ 4096 := mod_cast hk
    linarith
  have hpi : |(piNum / piDen : ℝ) - Real.pi| ≤ 1 / 1000000000 := by
    have hlo := Real.pi_gt_d20
    have hhi := Real.pi_lt_d20
    rw [abs_le]
    constructor <;> norm_num <;> linarith
  calc |tableAngle k - Real.pi * k / 8192|
      = |(piNum / piDen : ℝ) - Real.pi| * (k / 8192) := by
        rw [← abs_of_nonneg (a := (k : ℝ) / 8192) (by positivity), ← abs_mul, tableAngle]
        congr 1
        ring
    _ ≤ 1 / 1000000000 * 1 := by gcongr
    _ = 1 / 1000000000 := mul_one _

theorem abs_sin_tableAngle_sub_sineSum_le {k : ℕ} (hk : k ≤ 4096) :
    |Real.sin (tableAngle k) - sineSum 7 (tableAngle k)| ≤ 1 / 100000000 := by
  have hk' : (k : ℝ) ≤ 4096 := mod_cast hk
  have hangle : |tableAngle k| ≤ 1.5708 := by
    rw [abs_of_nonneg (by unfold tableAngle; positivity), tableAngle]
    norm_num
    linarith
  calc |Real.sin (tableAngle k) - sineSum 7 (tableAngle k)|
      ≤ |tableAngle k| ^ 15 / (15).factorial * 2 := abs_sin_sub_sineSum_le (n := 7) (by norm_num; linarith)
    _ ≤ 1.5708 ^ 15 / (15).factorial * 2 := by gcongr
    _ ≤ 1 / 100000000 := by norm_num [Nat.factorial]

/-- R400: the model's evaluation of the sine has an absolute error below 10⁻⁵. -/
theorem abs_sine511_ratio_sub_lt {k : ℕ} (hk : k ≤ 4096) :
    |((sine511 k).1 : ℝ) / (sine511 k).2 - 511 * Real.sin (Real.pi * k / 8192)| < 1 / 100000 := by
  have hseries := abs_sin_tableAngle_sub_sineSum_le hk
  have hangle := (Real.abs_sin_sub_sin_le _ _).trans (abs_tableAngle_sub_le hk)
  rw [abs_le] at hseries hangle
  rw [sine511_ratio, abs_lt]
  constructor <;> linarith

/-! ## The table's entries (R400) -/

/-- No value of the first quarter comes within 10⁻⁵ of the middle between two integers, by evaluation of
all 4097. -/
theorem sine511_near_lutQuarter {k : ℕ} (hk : k ≤ 4096) :
    |(sine511 k).1 - lutQuarter k * (sine511 k).2| * 100000 ≤ (sine511 k).2 * 49999 := by
  have key : ((List.range 4097).all fun k =>
      decide (|(sine511 k).1 - lutQuarter k * (sine511 k).2| * 100000 ≤ (sine511 k).2 * 49999)) = true := by
    decide +kernel
  exact of_decide_eq_true (List.all_eq_true.1 key k (List.mem_range.2 (by omega)))

theorem abs_lutQuarter_sub_ratio_le {k : ℕ} (hk : k ≤ 4096) :
    |(lutQuarter k : ℝ) - (sine511 k).1 / (sine511 k).2| ≤ 49999 / 100000 := by
  have hden : (0 : ℝ) < (sine511 k).2 := Int.cast_pos.2 (sine511_den_pos k)
  have hnear : |((sine511 k).1 : ℝ) - lutQuarter k * (sine511 k).2| * 100000 ≤ (sine511 k).2 * 49999 := by
    exact_mod_cast sine511_near_lutQuarter hk
  have hfrac : (lutQuarter k : ℝ) - (sine511 k).1 / (sine511 k).2
      = -(((sine511 k).1 - lutQuarter k * (sine511 k).2) / (sine511 k).2) := by
    field_simp
    ring
  rw [hfrac, abs_neg, abs_div, abs_of_pos hden, div_le_div_iff₀ hden (by norm_num)]
  linarith

/-- R400: `q` is the integer nearest to the sine that entry `m` of the largest table stands for. -/
def NearestToSine (q : ℤ) (m : ℕ) : Prop := |(q : ℝ) - 511 * Real.sin (Real.pi * m / 8192)| < 1 / 2

theorem nearestToSine_lutQuarter {k : ℕ} (hk : k ≤ 4096) : NearestToSine (lutQuarter k) k :=
  calc |(lutQuarter k : ℝ) - 511 * Real.sin (Real.pi * k / 8192)|
      ≤ |(lutQuarter k : ℝ) - (sine511 k).1 / (sine511 k).2|
        + |((sine511 k).1 : ℝ) / (sine511 k).2 - 511 * Real.sin (Real.pi * k / 8192)| := abs_sub_le _ _ _
    _ < 49999 / 100000 + 1 / 100000 :=
        add_lt_add_of_le_of_lt (abs_lutQuarter_sub_ratio_le hk) (abs_sine511_ratio_sub_lt hk)
    _ = 1 / 2 := by norm_num

/-- The sine is the same at both sides of a quarter turn. -/
theorem NearestToSine.half_sub {q : ℤ} {m : ℕ} (h : NearestToSine q (8192 - m)) (hm : m ≤ 8192) :
    NearestToSine q m := by
  have hangle : Real.pi * ((8192 - m : ℕ) : ℝ) / 8192 = Real.pi - Real.pi * m / 8192 := by
    rw [Nat.cast_sub hm]
    push_cast
    ring
  rwa [NearestToSine, hangle, Real.sin_pi_sub] at h

/-- The sine of the second half turn is the first one's, negated. -/
theorem NearestToSine.neg_sub_half {q : ℤ} {m : ℕ} (h : NearestToSine q (m - 8192)) (hm : 8192 ≤ m) :
    NearestToSine (-q) m := by
  have hangle : Real.pi * ((m - 8192 : ℕ) : ℝ) / 8192 = Real.pi * m / 8192 - Real.pi := by
    rw [Nat.cast_sub hm]
    push_cast
    ring
  rw [NearestToSine, hangle, Real.sin_sub_pi, ← abs_neg] at h
  rw [NearestToSine]
  convert h using 2
  push_cast
  ring

/-- Every entry of the largest table is nearest to its sine. -/
theorem nearestToSine_lutFull {m : ℕ} (hm : m ≤ 16384) : NearestToSine (lutFull m) m := by
  unfold lutFull
  split
  · exact nearestToSine_lutQuarter ‹_›
  · split
    · exact (nearestToSine_lutQuarter (by omega)).half_sub (by omega)
    · split
      · exact (nearestToSine_lutQuarter (by omega)).neg_sub_half (by omega)
      · refine NearestToSine.neg_sub_half (NearestToSine.half_sub ?_ (by omega)) (by omega)
        rw [show 8192 - (m - 8192) = 16384 - m by omega]
        exact nearestToSine_lutQuarter (by omega)

/-- Settles O33: entry `i` of a table of `N` entries stands at the same angle as entry `i·16384/N` of the
largest table. -/
theorem lutEntriesAreNearestToTheSine : Obligations.LutEntriesAreNearestToTheSine := by
  intro L i hi
  have hsize := lutSize_mul L
  have hstep : 0 < 2 ^ (14 - L.bits) := by positivity
  have hm : i * 2 ^ (14 - L.bits) ≤ 16384 := hsize ▸ Nat.mul_le_mul_right _ hi.le
  have hangle : Real.pi * ((i * 2 ^ (14 - L.bits) : ℕ) : ℝ) / 8192 = 2 * Real.pi * i / lutSize L := by
    have hsize' : (lutSize L : ℝ) * 2 ^ (14 - L.bits) = 16384 := mod_cast hsize
    have hN : (lutSize L : ℝ) ≠ 0 := Nat.cast_ne_zero.2 (by omega)
    rw [div_eq_div_iff (by norm_num) hN]
    push_cast
    linear_combination Real.pi * i * hsize'
  have hnear := nearestToSine_lutFull hm
  rwa [NearestToSine, hangle] at hnear

/-! ## The table's symmetries (R401) -/

theorem lutFull_half_sub {m : ℕ} (hm : m ≤ 8192) : lutFull (8192 - m) = lutFull m := by
  have hback : 8192 - (8192 - m) = m := by omega
  unfold lutFull
  by_cases hlo : m ≤ 4096
  · by_cases heq : m = 4096
    · rw [heq]
    · rw [if_neg (by omega), if_pos (by omega), if_pos hlo, hback]
  · rw [if_pos (by omega), if_neg hlo, if_pos hm]

theorem lutQuarter_zero : lutQuarter 0 = 0 := by decide

/-- The second half turn is the first one, negated. -/
theorem lutFull_half_add {m : ℕ} (hm : m ≤ 8192) : lutFull (8192 + m) = -lutFull m := by
  by_cases hzero : m = 0
  · subst hzero
    simp [lutFull, lutQuarter_zero]
  have hback : 8192 + m - 8192 = m := by omega
  have hfront : 16384 - (8192 + m) = 8192 - m := by omega
  unfold lutFull
  rw [if_neg (by omega), if_neg (by omega), hback, hfront]
  by_cases hlo : m ≤ 4096
  · rw [if_pos (by omega), if_pos hlo]
  · rw [if_neg (by omega), if_neg hlo, if_pos hm]

theorem lutFull_sub {m : ℕ} (hpos : 0 < m) (hm : m < 16384) : lutFull (16384 - m) = -lutFull m := by
  rcases Nat.le_total m 8192 with hle | hge
  · rw [show 16384 - m = 8192 + (8192 - m) by omega, lutFull_half_add (by omega), lutFull_half_sub hle]
  · obtain ⟨n, rfl⟩ := Nat.exists_eq_add_of_le hge
    rw [show 16384 - (8192 + n) = 8192 - n by omega, lutFull_half_sub (by omega),
      lutFull_half_add (by omega), neg_neg]

theorem lut_mem (L : LutBits) (i : ℕ) : -511 ≤ lut L i ∧ lut L i ≤ 511 := lutFull_mem _

/-- Where a quarter of a turn of each table stands in the largest table. -/
theorem lutSize_quarters (L : LutBits) :
    lutSize L / 4 * 2 ^ (14 - L.bits) = 4096 ∧ lutSize L / 2 * 2 ^ (14 - L.bits) = 8192
      ∧ 3 * lutSize L / 4 * 2 ^ (14 - L.bits) = 12288 := by
  cases L <;> decide

/-- Settles O32: the five tables are the largest one with entries left out, and its symmetries are theirs. -/
theorem lutHasItsSymmetries : Obligations.LutHasItsSymmetries := by
  intro L N
  obtain ⟨hquarter, hhalf, hthree⟩ := lutSize_quarters L
  have hfull := lutSize_mul L
  have hstep : 0 < 2 ^ (14 - L.bits) := by positivity
  refine ⟨?_, ?_, ?_, ?_, fun i hi => ?_, fun i hpos hi => ?_, fun i _ => lut_mem L i⟩
  · rw [lut_eq, Nat.zero_mul]
    decide
  · rw [lut_eq, hhalf]
    decide
  · rw [lut_eq, hquarter]
    decide
  · rw [lut_eq, hthree]
    decide
  · rw [lut_eq, lut_eq, Nat.sub_mul, hhalf]
    exact lutFull_half_sub (hhalf ▸ Nat.mul_le_mul_right _ hi)
  · rw [lut_eq, lut_eq, Nat.sub_mul, hfull]
    exact lutFull_sub (Nat.mul_pos hpos hstep) (hfull ▸ Nat.mul_lt_mul_of_pos_right hi hstep)

/-! ## Interpolation (R402) -/

/-- R402: the index and the fraction are read from the phase's bits above the fraction's lowest. -/
theorem phaseIndex_eq_div (L : LutBits) (p : Word) : phaseIndex L p = p.toNat / 2 ^ (22 - L.bits) / 1024 := by
  rw [phaseIndex, Nat.div_div_eq_div_mul]
  cases L <;> rfl

theorem interp_congr (L : LutBits) {p q : Word}
    (h : q.toNat / 2 ^ (22 - L.bits) = p.toNat / 2 ^ (22 - L.bits)) : interp L q = interp L p := by
  rw [interp_eq, interp_eq, phaseIndex_eq_div, phaseIndex_eq_div, phaseFrac, phaseFrac, h]

/-- A share below the whole of the step from `v0` to `v1` stays between the two. -/
theorem add_floorDiv_share_mem (v0 v1 : Int) {t T : Int} (hT : 0 < T) (ht : 0 ≤ t) (htT : t ≤ T) :
    min v0 v1 ≤ v0 + floorDiv ((v1 - v0) * t) T ∧ v0 + floorDiv ((v1 - v0) * t) T ≤ max v0 v1 := by
  have := floorDiv_share_mem (d := v1 - v0) (lo := min v0 v1 - v0) (hi := max v0 v1 - v0) hT ht htT
    (by omega) (by omega) (by omega) (by omega)
  omega

/-- Settles O34: the fraction is a share of 1024 below the whole. -/
theorem interpolationStaysBetweenEntries : Obligations.InterpolationStaysBetweenEntries := by
  intro L p idx frac s0 s1
  have heq : interp L p = s0 + (s1 - s0) * frac / 1024 := interp_eq L p
  have hfrac : frac < 1024 := phaseFrac_lt L p
  have hbetween := add_floorDiv_share_mem s0 s1 (t := frac) (T := 1024) (by decide) (by omega) (by omega)
  refine ⟨heq, heq ▸ hbetween.1, heq ▸ hbetween.2, (interp_mem L p).1, (interp_mem L p).2, fun hzero => ?_,
    fun q => interp_congr L⟩
  rw [heq, hzero]
  simp

/-! ## Increments and offsets (R410, R411) -/

/-- R410: the increment as a signed number, for a frequency in range. -/
theorem s32_phaseInc {f : Int} (hf : f.natAbs ≤ 12000000) :
    s32 (phaseInc f) = f.sign * ((f.natAbs * 2 ^ 32 + 25000000) / 50000000) := by
  rw [phaseInc, floorDiv_eq_div, Config.fPwmMhz]
  rcases lt_trichotomy f 0 with h | rfl | h
  · rw [Int.sign_eq_neg_one_of_neg h, s32_u32 (by omega) (by omega)]
  · rfl
  · rw [Int.sign_eq_one_of_pos h, s32_u32 (by omega) (by omega)]

/-- R410: the increment is the nearest multiple. -/
theorem natAbs_phaseInc_sub_le {f : Int} (hf : f.natAbs ≤ 12000000) :
    (2 * (s32 (phaseInc f) * 50000000 - f * 2 ^ 32)).natAbs ≤ 50000000 := by
  rw [s32_phaseInc hf]
  rcases lt_trichotomy f 0 with h | rfl | h
  · rw [Int.sign_eq_neg_one_of_neg h]
    omega
  · decide
  · rw [Int.sign_eq_one_of_pos h]
    omega

theorem phaseInc_neg (f : Int) : phaseInc (-f) = -phaseInc f := by
  rw [phaseInc, phaseInc, Int.sign_neg, Int.natAbs_neg, neg_mul]
  exact BitVec.ofInt_neg

/-- R411: the offset as a number, for an angle below a full turn. -/
theorem toNat_phaseOff {d : Word} (hd : d.toNat ≤ 35999) :
    ((phaseOff d).toNat : Int) = (d.toNat * 2 ^ 32 + 18000) / 36000 := by
  rw [phaseOff, floorDiv_eq_div, unsigned]
  exact toNat_u32 (by omega) (by omega)

/-- Settles O35: each rule is a floor of its share plus one half. -/
theorem phaseStepsAreRoundedShares : Obligations.PhaseStepsAreRoundedShares := by
  refine ⟨fun f hf => ⟨natAbs_phaseInc_sub_le hf, phaseInc_neg f, natAbs_phaseInc_le hf⟩, fun d hd => ?_⟩
  rw [toNat_phaseOff hd]
  omega

end Sys2Proof.Machine
end

section
/-!
PROOFS. The engine's agents (spec/40_dds_engine.md R420 to R445, spec/60_exceptions.md R920): the swap, REFILL with
the words, the filter states and the phase it leaves, TICK, ISR and CLK.
-/

namespace Sys2Proof.Machine

open Sys2Proof

/-! ## The swap (R431, R530) -/

/-- Where both blocks are the same, either view is that block. -/
theorem views_of_blocks_eq {s : State} {b : DdsBlock} (ha : s.ddsA = b) (hb : s.ddsB = b) :
    s.activeBlock = b ∧ s.pendingBlock = b := by
  rw [State.activeBlock, State.pendingBlock, ha, hb]
  exact ⟨ite_self _, ite_self _⟩

/-- Settles O38: what `swap_eq` says, read field by field. -/
theorem swapExchangesTheBlocks : Obligations.SwapExchangesTheBlocks := by
  intro s
  rw [swap_eq]
  obtain ⟨hactive, hpending⟩ := views_of_blocks_eq (b := s.pendingBlock) (s := swap s)
    (by rw [swap_eq]) (by rw [swap_eq])
  rw [swap_eq] at hactive hpending
  refine ⟨hactive, hpending, rfl, rfl, fun hkind => if_pos hkind, fun hkind c => ?_, rfl, fun _ => rfl⟩
  dsimp only
  rw [if_neg hkind]
  refine ⟨by simp [ChanFilter.zero], by simp [ChanFilter.zero], fun k => by simp [ChanFilter.zero]⟩

/-! ## ISR and CLK (R445, R920) -/

/-- Settles O43: ISR clears one completion and sets one free signal; CLK adds one to the time. -/
theorem isrFreesAndClkCounts : Obligations.IsrFreesAndClkCounts := by
  refine ⟨fun s h hirq => ⟨isr h s, if_pos hirq, ?_, ?_, ?_, ?_, rfl, fun _ => rfl⟩,
    fun s => ⟨clk s, rfl, ?_, rfl, fun _ => rfl⟩⟩
  · rw [isr_bufs_irq, HalfFlags.get_set_same]
  · rw [isr_bufs_free, HalfFlags.get_set_same]
  · rw [isr_bufs_irq, HalfFlags.get_set_other]
  · rw [isr_bufs_free, HalfFlags.get_set_other]
  · rw [clk, BitVec.toNat_add]
    rfl

/-! ## TICK (R440, R441) -/

/-- Settles O42: inside its half TICK moves on by one word, at the half's last word it chains. -/
theorem tickPlaysTheHalf : Obligations.TickPlaysTheHalf := by
  intro s hstarted
  refine ⟨tick s, if_pos hstarted, tick_pwmOutA s, tick_pwmOutB s, ?_⟩
  rcases tick_cases s with ⟨hpos, e⟩ | ⟨hpos, e⟩ <;> rw [e]
  · refine ⟨rfl, fun _ => ⟨?_, rfl, rfl⟩, fun hend => by omega, rfl, fun _ => rfl⟩
    exact Fin.val_add_one_of_lt' (by omega)
  · exact ⟨rfl, fun hend => by omega, fun _ => ⟨rfl, rfl, rfl, rfl, rfl, rfl, rfl⟩, rfl, fun _ => rfl⟩

/-! ## REFILL's bookkeeping (R430, R431, R433) -/

@[simp] theorem startConsumer_activeBlock (s : State) : (startConsumer s).activeBlock = s.activeBlock := by
  rcases startConsumer_cases s with ⟨-, e⟩ | ⟨-, e⟩
  · rw [e]
    rfl
  · rw [e]

@[simp] theorem startConsumer_pendingBlock (s : State) : (startConsumer s).pendingBlock = s.pendingBlock := by
  rcases startConsumer_cases s with ⟨-, e⟩ | ⟨-, e⟩
  · rw [e]
    rfl
  · rw [e]

/-- R431: a REFILL makes a published block the active one, and leaves the pending block what it was. -/
theorem refill_views (L : LutBits) (tab : FirTable) (s : State) :
    (refill L tab s).activeBlock = (if s.status.pub = true then s.pendingBlock else s.activeBlock)
      ∧ (refill L tab s).pendingBlock = s.pendingBlock := by
  obtain ⟨_, _, a, b, sel, -, -, ha, hb, hsel, e⟩ := refill_eq L tab s
  rw [e, startConsumer_activeBlock, startConsumer_pendingBlock]
  cases hpub : s.status.pub
  · rw [hpub, if_neg Bool.false_ne_true] at ha hb
    rw [hpub, Bool.xor_false] at hsel
    exact ⟨activeBlock_congr hsel ha hb, pendingBlock_congr hsel ha hb⟩
  · rw [hpub, if_pos rfl] at ha hb
    exact views_of_blocks_eq ha hb

/-- Once a half is marked ready, both are exactly where the other one was. -/
theorem HalfFlags.both_set_true (f : HalfFlags) (h : Half) :
    (f.set h true).h0 = true ∧ (f.set h true).h1 = true ↔ f.get h.other = true := by
  cases h
  · exact and_iff_right rfl
  · exact and_iff_left rfl

theorem startConsumer_of_both_ready {s : State}
    (h : s.status.started = false ∧ s.bufs.ready.h0 = true ∧ s.bufs.ready.h1 = true) :
    startConsumer s = { s with
      status := { s.status with started := true }
      bufs := { s.bufs with playHalf := .h0, tickPos := 0, ready := ⟨false, true⟩ } } := by
  rcases startConsumer_cases s with ⟨-, e⟩ | ⟨hnot, -⟩
  · exact e
  · exact absurd h hnot

theorem startConsumer_of_not {s : State}
    (h : ¬(s.status.started = false ∧ s.bufs.ready.h0 = true ∧ s.bufs.ready.h1 = true)) :
    startConsumer s = s := by
  rcases startConsumer_cases s with ⟨hstart, -⟩ | ⟨-, e⟩
  · exact absurd hstart h
  · exact e

/-- R433: a REFILL before the consumer's start that finds the other half ready starts it on half 0. -/
theorem refill_of_start (L : LutBits) (tab : FirTable) {s : State}
    (h : s.status.started = false ∧ s.bufs.ready.get s.bufs.nextFill.other = true) :
    (refill L tab s).status.started = true
      ∧ (refill L tab s).bufs = { s.bufs with
          free := s.bufs.free.set s.bufs.nextFill false, nextFill := s.bufs.nextFill.other
          playHalf := .h0, tickPos := 0, ready := ⟨false, true⟩ } := by
  obtain ⟨_, _, _, _, _, -, -, -, -, -, e⟩ := refill_eq L tab s
  rw [e, startConsumer_of_both_ready]
  · exact ⟨rfl, rfl⟩
  · exact ⟨h.1, (HalfFlags.both_set_true ..).2 h.2⟩

/-- R430: any other REFILL leaves the consumer where it is and marks its half ready. -/
theorem refill_of_no_start (L : LutBits) (tab : FirTable) {s : State}
    (h : ¬(s.status.started = false ∧ s.bufs.ready.get s.bufs.nextFill.other = true)) :
    (refill L tab s).status.started = s.status.started
      ∧ (refill L tab s).bufs = { s.bufs with
          free := s.bufs.free.set s.bufs.nextFill false, nextFill := s.bufs.nextFill.other
          ready := s.bufs.ready.set s.bufs.nextFill true } := by
  obtain ⟨_, _, _, _, _, -, -, -, -, -, e⟩ := refill_eq L tab s
  rw [e, startConsumer_of_not]
  · exact ⟨rfl, rfl⟩
  · exact fun ⟨hstarted, hready⟩ => h ⟨hstarted, (HalfFlags.both_set_true ..).1 hready⟩

/-- R430: every REFILL takes its half's free signal, moves to the other half, and leaves the completions. -/
theorem refill_free_irq_nextFill (L : LutBits) (tab : FirTable) (s : State) :
    (refill L tab s).bufs.free = s.bufs.free.set s.bufs.nextFill false
      ∧ (refill L tab s).bufs.irq = s.bufs.irq
      ∧ (refill L tab s).bufs.nextFill = s.bufs.nextFill.other := by
  by_cases h : s.status.started = false ∧ s.bufs.ready.get s.bufs.nextFill.other = true
  · rw [(refill_of_start L tab h).2]
    exact ⟨rfl, rfl, rfl⟩
  · rw [(refill_of_no_start L tab h).2]
    exact ⟨rfl, rfl, rfl⟩

theorem refill_status_pub (L : LutBits) (tab : FirTable) (s : State) :
    (refill L tab s).status.pub = false :=
  refill_induct L tab s (·.status.pub = false) fun _ _ _ _ _ _ _ _ _ _ => rfl

theorem startConsumer_activeSel (s : State) :
    (startConsumer s).status.activeSel = s.status.activeSel := by
  rcases startConsumer_cases s with ⟨-, e⟩ | ⟨-, e⟩ <;> rw [e]

theorem refill_status_activeSel (L : LutBits) (tab : FirTable) (s : State) :
    (refill L tab s).status.activeSel = (s.status.activeSel ^^ s.status.pub) := by
  obtain ⟨_, _, _, _, _, -, -, -, -, hsel, e⟩ := refill_eq L tab s
  rw [e, startConsumer_activeSel, hsel]

/-- R430: a REFILL writes no byte outside the two runs of its half. -/
theorem readByte_refill_of_outside (L : LutBits) (tab : FirTable) (s : State) {a : Nat}
    (ha : a < bufAddr .a s.bufs.nextFill 0 ∨ bufAddr .a s.bufs.nextFill 256 ≤ a)
    (hb : a < bufAddr .b s.bufs.nextFill 0 ∨ bufAddr .b s.bufs.nextFill 256 ≤ a) :
    (refill L tab s).mem.readByte a = s.mem.readByte a := by
  obtain ⟨_, _, -, -, -, hmem⟩ := refill_samples L tab s
  rw [hmem]
  exact readByte_storeHalf_of_outside _ _ _ (length_words_synthRun ..) a ha hb

/-- Settles O39: the bookkeeping has two cases, by the consumer's start. -/
theorem refillMovesTheBuffer : Obligations.RefillMovesTheBuffer := by
  intro s hinit hfree t
  obtain ⟨hactive, hpending⟩ := refill_views Config.lutBits Config.firCoeff s
  obtain ⟨htaken, hirq, hnext⟩ := refill_free_irq_nextFill Config.lutBits Config.firCoeff s
  refine ⟨if_pos ((refillEnabled_iff s).2 ⟨hinit, hfree⟩), hactive, hpending, refill_status_pub ..,
    refill_status_activeSel .., htaken, hirq, hnext, fun hstart => ?_, fun hnot => ?_,
    fun sl _ hj => bufWord_refill_of_ne _ _ (Half.other_ne _) sl hj,
    fun _ => readByte_refill_of_outside _ _ s, ?_⟩
  · obtain ⟨hstarted, hbufs⟩ := refill_of_start Config.lutBits Config.firCoeff hstart
    exact ⟨hstarted, by rw [hbufs], by rw [hbufs], by rw [hbufs]⟩
  · obtain ⟨hstarted, hbufs⟩ := refill_of_no_start Config.lutBits Config.firCoeff hnot
    exact ⟨hstarted, by rw [hbufs], by rw [hbufs], by rw [hbufs]⟩
  · exact refill_induct Config.lutBits Config.firCoeff s (fun u => { u with
      ddsA := s.ddsA, ddsB := s.ddsB, filters := s.filters, masterPhase := s.masterPhase
      mem := s.mem, bufs := s.bufs
      status := { u.status with
        activeSel := s.status.activeSel, pub := s.status.pub, started := s.status.started } } = s)
      fun _ _ _ _ _ _ _ _ _ _ => rfl

/-! ## What a REFILL writes (R420 to R424, R430) -/

/-- R431: the block a REFILL fills its half from, the active one after its swap. -/
def refillBlock (s : State) : DdsBlock := if s.status.pub = true then s.pendingBlock else s.activeBlock

/-- R530: the filter states a REFILL's run begins with, those after its swap. -/
def refillFilters (s : State) : Vector ChanFilter 4 :=
  if s.status.pub = true ∧ s.pendingBlock.kind ≠ s.activeBlock.kind then Vector.replicate 4 .zero
  else s.filters

@[simp] theorem startConsumer_masterPhase (s : State) : (startConsumer s).masterPhase = s.masterPhase := by
  rcases startConsumer_cases s with ⟨-, e⟩ | ⟨-, e⟩ <;> rw [e]

/-- R430: what a REFILL leaves in memory, filters and phase is one run's. -/
theorem refill_eq_synthRun (L : LutBits) (tab : FirTable) (s : State) :
    ∃ r, r = synthRun L tab (refillBlock s) 256 s.masterPhase (refillFilters s)
      ∧ (refill L tab s).mem = storeHalf s.mem s.bufs.nextFill r.words
      ∧ (refill L tab s).filters = r.filters ∧ (refill L tab s).masterPhase = r.phase := by
  obtain ⟨S, fs, _, _, _, hS, hfs, -, -, -, e⟩ := refill_eq L tab s
  refine ⟨synthRun L tab S 256 s.masterPhase fs, by rw [hS, hfs, refillBlock, refillFilters],
    by rw [e, startConsumer_mem], by rw [e, startConsumer_filters], by rw [e, startConsumer_masterPhase]⟩

/-- Word `j` of both slices of the half a REFILL fills is the run's `j`-th pair. -/
theorem bufWord_refill (L : LutBits) (tab : FirTable) (s : State) {j : Nat} {w : Word × Word}
    (h : (synthRun L tab (refillBlock s) 256 s.masterPhase (refillFilters s)).words[j]? = some w) :
    bufWord (refill L tab s) .a s.bufs.nextFill j = w.1
      ∧ bufWord (refill L tab s) .b s.bufs.nextFill j = w.2 := by
  obtain ⟨r, hr, hmem, -⟩ := refill_eq_synthRun L tab s
  have hlen : r.words.length = 256 := by rw [hr, length_words_synthRun]
  rw [← hr] at h
  obtain ⟨hj, rfl⟩ := List.getElem?_eq_some_iff.1 h
  rw [hlen] at hj
  rw [bufWord, bufWord, hmem]
  exact ⟨readWord_storeHalf_a _ _ _ hlen j hj, readWord_storeHalf_b _ _ _ hlen j hj⟩

/-! ## A disabled block (R421, R424) -/

/-- R421: every word of a disabled block's run is the centre value, twice. -/
theorem words_synthRun_of_not_en (L : LutBits) (tab : FirTable) {S : DdsBlock} (h : S.en = false) {n : Nat}
    (ph : Word) (fs : Vector ChanFilter 4) {j : Nat} (hj : j < n) :
    (synthRun L tab S n ph fs).words[j]? = some (0x02000200, 0x02000200) := by
  have hlt : j < (synthRun L tab S n ph fs).words.length := by rwa [length_words_synthRun]
  obtain ⟨ph', fs', hword⟩ := mem_words_synthRun L tab S n ph fs _ (List.getElem_mem hlt)
  rw [List.getElem?_eq_getElem hlt, hword]
  simp only [synthTick, Vector.getElem_ofFn, synth_of_not_en L tab S h]
  rfl

/-- Settles O40: each tick of a disabled block's run answers the centre and keeps phase and filters. -/
theorem disabledRefillWritesTheCentre : Obligations.DisabledRefillWritesTheCentre := by
  intro L tab s hdisabled t
  have hen : (refillBlock s).en = false := hdisabled
  obtain ⟨r, rfl, -, hfilters, hphase⟩ := refill_eq_synthRun L tab s
  rw [filters_synthRun_of_not_en L tab _ hen, refillFilters] at hfilters
  rw [phase_synthRun_of_not_en L tab _ hen] at hphase
  refine ⟨fun sl j hj => ?_, hphase, fun hsame => ?_, fun hdiffers => ?_⟩
  · have hwords := bufWord_refill L tab s (words_synthRun_of_not_en L tab hen _ _ hj)
    cases sl
    · exact hwords.1
    · exact hwords.2
  · rw [hfilters, if_neg]
    rintro ⟨hpub, hne⟩
    rcases hsame with hnopub | heq
    · exact absurd (hpub.symm.trans hnopub) (by decide)
    · exact hne heq
  · rw [hfilters, if_pos hdiffers]

/-! ## An enabled block (R420, R422 to R424, R500, R531) -/

section
variable {tab : FirTable} {S : DdsBlock} (x : Int) (ch : ChanFilter)

/-- R501: None has no filter state. -/
theorem filterStep_state_of_none (h : S.kind = .none) : (filterStep tab S x ch).2 = ch := by
  rw [filterStep, h]

/-- R510: an IIR step stores its history only. -/
theorem filterStep_fir_of_iir (h : S.kind = .iir) :
    (filterStep tab S x ch).2.firHist = ch.firHist ∧ (filterStep tab S x ch).2.firPtr = ch.firPtr := by
  rw [filterStep, h]
  exact ⟨rfl, rfl⟩

/-- R521: a FIR step stores its ring and index only. -/
theorem filterStep_iirY_of_fir (h : S.kind = .fir) : (filterStep tab S x ch).2.iirY = ch.iirY := by
  rw [filterStep, h]
  rfl

end

/-- R412: channel 0 is the reference, the others have an offset each. -/
theorem channelOffset_eq (S : DdsBlock) (c : Fin 4) :
    channelOffset S c = if c = 0 then 0 else if c = 1 then S.off1 else if c = 2 then S.off2 else S.off3 := by
  fin_cases c <;> rfl

/-- R420: the scaled sample, its rounding written out. -/
theorem scaledSample_eq (L : LutBits) (S : DdsBlock) (c : Fin 4) (ph : Word) :
    scaledSample L S c ph
      = ((S.amp.toNat : Int) * interp L (ph + channelOffset S c) + 16384) / 32768 := rfl

/-- R420, R422: a channel's compare value as a number; the phase mode gates a channel to the centre. -/
theorem toNat_channelValue (L : LutBits) (tab : FirTable) (S : DdsBlock) (c : Fin 4) (ph : Word)
    (ch : ChanFilter) (j : Nat) :
    (channelValue L tab S c ph ch j).toNat = if S.pm.toNat ≤ c.val then 512 else
      (min (max ((filterStep tab S (scaledSample L S c (ph + BitVec.ofNat 32 j * S.phaseInc))
        (channelAfter L tab S c ph ch j)).1 + 512) 0) 1023).toNat := by
  rw [channelValue, toNat_compareValue]
  split
  · rfl
  · rfl

/-- R531: an enabled block's REFILL leaves each channel's filter as that channel's steps leave it. -/
theorem filters_refill_of_en (L : LutBits) (tab : FirTable) {s : State} (hen : (refillBlock s).en = true)
    (c : Fin 4) : (refill L tab s).filters[c]
      = channelAfter L tab (refillBlock s) c s.masterPhase (refillFilters s)[c] 256 := by
  obtain ⟨r, hr, -, hfilters, -⟩ := refill_eq_synthRun L tab s
  rw [hfilters, hr, filters_synthRun_of_en L tab _ hen]

/-- R424: an enabled block's REFILL advances the phase by one increment a tick. -/
theorem masterPhase_refill_of_en (L : LutBits) (tab : FirTable) {s : State}
    (hen : (refillBlock s).en = true) :
    (refill L tab s).masterPhase = s.masterPhase + 256 * (refillBlock s).phaseInc := by
  obtain ⟨r, hr, -, -, hphase⟩ := refill_eq_synthRun L tab s
  rw [hphase, hr, phase_synthRun_of_en L tab _ hen]
  rfl

/-- A part of the filter states that no filter step of the block changes is as before the run. -/
theorem filters_refill_keeps (L : LutBits) (tab : FirTable) {s : State} (hen : (refillBlock s).en = true)
    {α : Type} (f : ChanFilter → α) (hf : ∀ x ch, f (filterStep tab (refillBlock s) x ch).2 = f ch)
    (c : Fin 4) : f (refill L tab s).filters[c] = f (refillFilters s)[c] := by
  rw [filters_refill_of_en L tab hen, channelAfter_keeps L tab _ f hf]

/-- Settles O41: the statement's samples, filter steps and histories are those of `words_synthRun_of_en` and
`filters_synthRun_of_en`, written out. -/
theorem refillWritesTheSamplesOfOneBlock : Obligations.RefillWritesTheSamplesOfOneBlock := by
  intro L tab s S filters0 off sample filter history cc hen t
  have hsample (c : Fin 4) (j : Nat) :
      sample c j = scaledSample L S c (s.masterPhase + BitVec.ofNat 32 j * S.phaseInc) := by
    rw [scaledSample_eq, channelOffset_eq]
  have hfilter (x : Int) (ch : ChanFilter) : filter x ch = filterStep tab S x ch := rfl
  have hhistory (c : Fin 4) (j : Nat) :
      history c j = channelAfter L tab S c s.masterPhase filters0[c] j := by
    simp only [history, channelAfter, hsample, hfilter]
  have hcc (c : Fin 4) (j : Nat) :
      cc c j = (channelValue L tab S c s.masterPhase filters0[c] j).toNat := by
    rw [toNat_channelValue]
    simp only [cc, hfilter, hhistory, hsample]
  refine ⟨fun j hj => ?_, fun c => (filters_refill_of_en L tab hen c).trans (hhistory c 256).symm,
    masterPhase_refill_of_en L tab hen, fun hkind => Vector.ext fun c hc => ?_, fun hkind c => ⟨?_, ?_⟩,
    fun hkind c => ?_⟩
  · obtain ⟨ha, hb⟩ := bufWord_refill L tab s (words_synthRun_of_en L tab S hen 256 _ filters0 j hj)
    rw [ha, hb, toNat_packWord, toNat_packWord, hcc, hcc, hcc, hcc]
    exact ⟨rfl, rfl⟩
  · exact filters_refill_keeps L tab hen id (fun x ch => filterStep_state_of_none x ch hkind) ⟨c, hc⟩
  · exact filters_refill_keeps L tab hen (·.firHist) (fun x ch => (filterStep_fir_of_iir x ch hkind).1) c
  · exact filters_refill_keeps L tab hen (·.firPtr) (fun x ch => (filterStep_fir_of_iir x ch hkind).2) c
  · exact filters_refill_keeps L tab hen (·.iirY) (fun x ch => filterStep_iirY_of_fir x ch hkind) c

end Sys2Proof.Machine
end

section
/-!
PROOFS. The filter cores (spec/41_filters.md R510 to R522): the values an IIR step and a FIR step have and keep in
range, and what a run of FIR steps leaves in the ring.
-/

namespace Sys2Proof.Machine

open Sys2Proof

/-! ## The IIR core (R510, R512) -/

/-- R510: the full-precision value an IIR step from the history `y` computes. -/
def iirValue (alpha : BitVec 16) (x y : Int) : Int := alpha.toNat * x + (65536 - alpha.toNat) * y / 65536

/-- R510: the answer is the value rounded to a sample. -/
theorem iirStep_fst (alpha : BitVec 16) (x : Int) (ch : ChanFilter) :
    (iirStep alpha x ch).1 = rhu (iirValue alpha x (s32 ch.iirY)) 16 := rfl

/-- R512: weights of sum 1 keep a sample's bound, at 16 fractional bits. -/
theorem iirValue_mem (alpha : BitVec 16) {x y : Int} (hx : x.natAbs ≤ 511) (hy : y.natAbs ≤ 511 * 65536) :
    -511 * 2 ^ 16 ≤ iirValue alpha x y ∧ iirValue alpha x y ≤ 511 * 2 ^ 16 := by
  have ha := alpha.isLt
  have hsample := mul_mem_of_natAbs_le (a := (alpha.toNat : Int)) (by omega) hx
  have hhistory := mul_mem_of_natAbs_le (a := 65536 - (alpha.toNat : Int)) (by omega) hy
  unfold iirValue
  omega

/-- R512: the value a step stores fits its word. -/
theorem s32_iirY_iirStep (alpha : BitVec 16) {x : Int} {ch : ChanFilter} (hx : x.natAbs ≤ 511)
    (hy : (s32 ch.iirY).natAbs ≤ 511 * 65536) :
    s32 (iirStep alpha x ch).2.iirY = iirValue alpha x (s32 ch.iirY) := by
  have hvalue := iirValue_mem alpha hx hy
  exact s32_u32 (v := iirValue alpha x (s32 ch.iirY)) (by omega) (by omega)

/-! ## One FIR step (R521) -/

section
variable (tab : FirTable) (p : FirProfile) {x : Int} (ch : ChanFilter)

@[simp] theorem firStep_firPtr : (firStep tab p x ch).2.firPtr = ch.firPtr + 1 := rfl

@[simp] theorem firStep_iirY : (firStep tab p x ch).2.iirY = ch.iirY := rfl

/-- R521: the sample is stored at the index, and the other slots are kept. -/
theorem s32_firHist_firStep (hx : x.natAbs ≤ 511) (k : Fin 8) :
    s32 (firStep tab p x ch).2.firHist[k] = if k = ch.firPtr then x else s32 ch.firHist[k] := by
  simp only [firStep, Fin.getElem_fin, Vector.getElem_set, Fin.ext_iff, eq_comm (a := k.val)]
  split
  · rw [s32_u32 (by omega) (by omega)]
  · rfl

/-- R521: the answer is the rounded sum over the ring the step leaves. -/
theorem firStep_fst_eq_rhu : (firStep tab p x ch).1
    = rhu (∑ k : Fin 8, (tab p k).toInt * s32 (firStep tab p x ch).2.firHist[ch.firPtr - k]) 15 := by
  rw [Fin.sum_univ_def]
  rfl

end

/-! ## The default tables (R520, R522) -/

theorem firCoeffDefault_nonneg (p : FirProfile) (k : Fin 8) : 0 ≤ (Config.firCoeffDefault p k).toInt := by
  cases p <;> revert k <;> decide

theorem sum_firCoeffDefault (p : FirProfile) : ∑ k : Fin 8, (Config.firCoeffDefault p k).toInt = 32768 := by
  cases p <;> decide

/-- Nonnegative taps bound their weighted sum by the bound of the samples times their sum. -/
theorem sum_mul_mem_of_natAbs_le {b : Nat} {c h : Fin 8 → Int} (hc : ∀ k, 0 ≤ c k)
    (hh : ∀ k, (h k).natAbs ≤ b) :
    -b * ∑ k, c k ≤ ∑ k, c k * h k ∧ ∑ k, c k * h k ≤ b * ∑ k, c k := by
  rw [Finset.mul_sum, Finset.mul_sum]
  have hmem (k : Fin 8) := mul_mem_of_natAbs_le (hc k) (hh k)
  refine ⟨Finset.sum_le_sum fun k _ => ?_, Finset.sum_le_sum fun k _ => ?_⟩
  · linarith [hmem k]
  · linarith [hmem k]

/-- R522: over a ring within ±511 the default tables answer within ±511. -/
theorem natAbs_firStep_default_le (p : FirProfile) (x : Int) {ch : ChanFilter}
    (hring : ∀ k : Fin 8, (s32 (firStep Config.firCoeffDefault p x ch).2.firHist[k]).natAbs ≤ 511) :
    (firStep Config.firCoeffDefault p x ch).1.natAbs ≤ 511 := by
  have hacc := sum_mul_mem_of_natAbs_le (firCoeffDefault_nonneg p) fun k => hring (ch.firPtr - k)
  rw [sum_firCoeffDefault] at hacc
  have := rhu_mem (lo := -511) (hi := 511) 15 (by decide) hacc.1 hacc.2
  rw [firStep_fst_eq_rhu]
  omega

/-- Settles O37: the values are those the rules of one IIR and one FIR step give, and the bounds those of
`iirValue_mem` and `natAbs_firStep_default_le`. -/
theorem filterStepsStayInRange : Obligations.FilterStepsStayInRange := by
  intro ch x hx
  constructor
  · intro alpha hy yq r
    have hyq : -511 * 2 ^ 16 ≤ yq ∧ yq ≤ 511 * 2 ^ 16 := iirValue_mem alpha hx hy
    have hstored : s32 r.2.iirY = yq := s32_iirY_iirStep alpha hx hy
    have hanswer : r.1 = rhu yq 16 := iirStep_fst alpha x ch
    have hout := rhu_mem 16 (by decide) hyq.1 hyq.2
    exact ⟨hstored, hanswer, by omega, by omega, rfl, rfl⟩
  · intro tab p r
    have hslot := s32_firHist_firStep tab p ch hx
    refine ⟨hslot, Fin.val_add _ _, rfl, firStep_fst_eq_rhu tab p ch, fun hhist => ?_⟩
    have hring (k : Fin 8) : (s32 r.2.firHist[k]).natAbs ≤ 511 := by
      rw [hslot k]
      split
      · exact hx
      · exact hhist k
    refine ⟨hring, ?_⟩
    rintro rfl
    exact natAbs_firStep_default_le p x hring

/-! ## A run of FIR steps (R521) -/

/-- The sample stored `k` FIR steps before the newest one: the index stands one after the newest. -/
def sampleAgo (ch : ChanFilter) (k : Fin 8) : Int := s32 ch.firHist[ch.firPtr - 1 - k]

/-- FIR steps over the samples `xs`, oldest first, from an answer and a filter state. -/
def firRun (tab : FirTable) (p : FirProfile) (r : Int × ChanFilter) (xs : List Int) : Int × ChanFilter :=
  xs.foldl (fun r v => firStep tab p v r.2) r

section
variable (tab : FirTable) (p : FirProfile) {x : Int} (ch : ChanFilter) (r : Int × ChanFilter)

theorem firRun_concat (xs : List Int) (x : Int) :
    firRun tab p r (xs ++ [x]) = firStep tab p x (firRun tab p r xs).2 := List.foldl_concat ..

/-- A FIR step's sample is the newest one. -/
theorem sampleAgo_firStep_zero (hx : x.natAbs ≤ 511) : sampleAgo (firStep tab p x ch).2 0 = x := by
  rw [sampleAgo, s32_firHist_firStep tab p ch hx, firStep_firPtr, if_pos (by simp)]

/-- A FIR step makes every sample but the oldest one step older. -/
theorem sampleAgo_firStep_succ (hx : x.natAbs ≤ 511) {k : Fin 8} (hk : k ≠ 0) :
    sampleAgo (firStep tab p x ch).2 k = sampleAgo ch (k - 1) := by
  have hslot : ch.firPtr + 1 - 1 - k = ch.firPtr - 1 - (k - 1) := by
    rw [add_sub_cancel_right, sub_sub, add_sub_cancel]
  rw [sampleAgo, s32_firHist_firStep tab p ch hx, firStep_firPtr, if_neg (by simpa using hk), hslot]
  rfl

/-- R521: tap `k` weighs the sample of `k` steps ago. -/
theorem firStep_fst_eq_rhu_sampleAgo : (firStep tab p x ch).1
    = rhu (∑ k : Fin 8, (tab p k).toInt * sampleAgo (firStep tab p x ch).2 k) 15 := by
  simp only [firStep_fst_eq_rhu, sampleAgo, firStep_firPtr, add_sub_cancel_right]

/-- After a run, the newest samples of the ring are the run's, whatever the ring held and wherever its index
stood before. -/
theorem sampleAgo_firRun (xs : List Int) (hxs : ∀ v ∈ xs, v.natAbs ≤ 511) (k : Fin 8)
    (hk : k.val < xs.length) :
    sampleAgo (firRun tab p r xs).2 k = xs[xs.length - 1 - k.val] := by
  induction xs using List.reverseRecOn generalizing k with
  | nil => exact absurd hk (Nat.not_lt_zero _)
  | append_singleton xs v ih =>
    have hv : v.natAbs ≤ 511 := hxs v (by simp)
    rw [firRun_concat]
    by_cases hzero : k = 0
    · subst hzero
      simp [sampleAgo_firStep_zero tab p _ hv]
    · have hpred : (k - 1).val = k.val - 1 := Fin.val_sub_one_of_ne_zero hzero
      have hpos : 0 < k.val := Fin.pos_iff_ne_zero.2 hzero
      rw [List.length_append, List.length_singleton] at hk
      rw [sampleAgo_firStep_succ tab p _ hv hzero,
        ih (fun w hw => hxs w (List.mem_append_left _ hw)) (k - 1) (by omega), List.getElem_append_left]
      · simp only [hpred, List.length_append, List.length_singleton]
        congr 1
        omega
      · simp only [List.length_append, List.length_singleton]
        omega

end

/-- Settles O36: eight steps fill the ring, so `sampleAgo_firRun` names every sample the last answer weighs. -/
theorem firOutputIsTheConvolution : Obligations.FirOutputIsTheConvolution := by
  intro tab p ch x hx
  have hlast : List.ofFn x = List.ofFn (fun i : Fin 7 => x i.castSucc) ++ [x (Fin.last 7)] := by
    rw [List.ofFn_succ', List.concat_eq_append]
  have hanswer : (firRun tab p (0, ch) (List.ofFn x)).1
      = rhu (∑ k : Fin 8, (tab p k).toInt * sampleAgo (firRun tab p (0, ch) (List.ofFn x)).2 k) 15 := by
    rw [hlast, firRun_concat, ← firStep_fst_eq_rhu_sampleAgo]
  have hsample (k : Fin 8) : sampleAgo (firRun tab p (0, ch) (List.ofFn x)).2 k = x (7 - k) := by
    rw [sampleAgo_firRun tab p _ _ (List.forall_mem_ofFn_iff.2 hx) k (by rw [List.length_ofFn]; omega),
      List.getElem_ofFn]
    refine congrArg x (Fin.ext ?_)
    rw [show (7 : Fin 8) = Fin.last 7 from rfl, Fin.last_sub, Fin.val_rev]
    simp only [List.length_ofFn]
    omega
  simp only [hsample] at hanswer
  exact hanswer

end Sys2Proof.Machine
end

section
/-!
PROOFS. From a word to its command (spec/42_motor_commands.md R600, R610, R624, spec/30_encoding.md R304): what a
write to CMD executes, the commands that have no effect before INIT, and the step that takes the write
off the schedule.
-/

namespace Sys2Proof.Machine

open Sys2Proof

/-! ## Words written to CMD (R600, R624) -/

theorem execWord_of_decode {w : Word} {i : Instr} (h : decode w = .ok i) (s : State) :
    execWord w s = exec i s := by
  rw [execWord, h]

theorem execWord_of_reserved {w : Word} (h : 0x0D ≤ opcodeOf w) (s : State) :
    execWord w s = .next (raise .cmderr s) := by
  rw [execWord, decode_of_reserved h]

/-- Settles O6: a reserved OPCODE decodes to no command, and raising CMDERR writes that bit alone. -/
theorem reservedOpcodeOnlyRaisesCmderr : Obligations.ReservedOpcodeOnlyRaisesCmderr := fun _ s h =>
  execWord_of_reserved h s

/-- Settles O9: NOP has no operands, so OPCODE 0x00 alone decodes to it. -/
theorem nopLeavesEveryRegisterUnchanged : Obligations.NopLeavesEveryRegisterUnchanged := fun s =>
  ⟨rfl, fun w hop => execWord_of_decode ((decode_eq_ok_iff w .nop).2 ⟨hop, trivial⟩) s⟩

theorem ErrorKind.code_le (k : ErrorKind) : k.code ≤ 4 := by cases k <;> decide

/-- R622: a kind that names no error is rejected. -/
theorem reportErrorBody_of_unnamed {kind : Nat} (h : 5 ≤ kind) (crit : Bool) (s : State) :
    reportErrorBody kind crit s = raise .cmderr s := by
  rcases reportErrorBody_cases kind crit s with ⟨-, e⟩ | ⟨k, hk, -⟩
  · exact e
  · have := k.code_le
    omega

/-- Settles O20: the kind's word decodes to the command, whose body rejects it before any relay is evaluated. -/
theorem reportErrorRejectsUnnamedKinds : Obligations.ReportErrorRejectsUnnamedKinds := by
  rintro s kind crit _ hlo hhi rfl
  have hdecode := commandsDecodeFromTheirWords (.reportError kind crit) (decide_eq_true hhi)
  rw [memWrite_cmd, execWord_of_decode hdecode, exec, execReportError, reportErrorBody_of_unnamed hlo]
  rfl

/-! ## Before INIT (R600) -/

/-- R600: the commands 0x02 to 0x0A are the gated ones. -/
theorem exec_eq_gated {i : Instr} (hlo : 0x02 ≤ i.opcode) (hhi : i.opcode ≤ 0x0A) :
    ∃ body, exec i = gated body := by
  cases i with
  | nop | init | reportError _ _ | loadDefaults => simp only [Instr.opcode] at hlo hhi; omega
  | _ => exact ⟨_, rfl⟩

/-- Settles O10: a gated command does not run its body while SYSINIT = 0. -/
theorem commandsBeforeInitAreIgnored : Obligations.CommandsBeforeInitAreIgnored := by
  intro i s hs hlo hhi
  obtain ⟨body, hbody⟩ := exec_eq_gated hlo hhi
  rw [hbody, gated_of_not_sysinit hs]

/-! ## The scheduled write (R6, R310) -/

/-- A scheduled write of a command's word runs the command. -/
theorem step_of_scheduled_command {s : State} {w : Word} {i : Instr} {rest : List AgentStep}
    (hd : ¬ResetDue s) (hs : s.schedule = .hostWrite 0x004 4 w :: rest) (hw : decode w = .ok i) :
    step s = exec i { s with schedule := rest } :=
  (step_of_schedule (wdtDue_eq_false hd) hs).trans (execWord_of_decode hw _)

/-- Settles O7: `withFetchWord` is such a schedule, whose word is the encoded one since it has 32 bits. -/
theorem stepRunsTheScheduledCommand : Obligations.StepRunsTheScheduledCommand := by
  refine ⟨fun s w i rest hd hs hw => step_of_scheduled_command hd hs hw, fun s i hd hi => ?_⟩
  have hword : BitVec.ofNat 32 ((encode i).toNat % 2 ^ 32) = encode i := by
    rw [Nat.mod_eq_of_lt (encode i).isLt, BitVec.ofNat_toNat, BitVec.setWidth_eq]
  have hs : (s.withFetchWord 32 (encode i).toNat).schedule = .hostWrite 0x004 4 (encode i) :: s.schedule := by
    rw [withFetchWord_schedule, hword]
  exact step_of_scheduled_command hd hs (commandsDecodeFromTheirWords i hi)

end Sys2Proof.Machine
end

section
/-!
PROOFS. What each motor command leaves (spec/42_motor_commands.md R602 to R623): the targets it latches, its own
effects case by case, and around them the relay evaluation and the frame.
-/

namespace Sys2Proof.Machine

open Sys2Proof

/-! ## Targets (R602 to R605, R830) -/

theorem effMin_eq (p : SpeedProfile) : effMin p = (min p.minMhz.toNat p.maxMhz.toNat : Nat) :=
  (Nat.cast_min _ _).symm

theorem effMax_eq (p : SpeedProfile) : effMax p = (max p.minMhz.toNat p.maxMhz.toNat : Nat) :=
  (Nat.cast_max _ _).symm

/-- R602 with R830 written out. -/
theorem targetFreq_eq (s : State) (k : Speed) :
    targetFreq s k =
      clamp (effNominal (s.profiles.get k) + effNominal (s.profiles.get k) * effPitch s / 10000)
        (effMin (s.profiles.get k)) (effMax (s.profiles.get k)) := rfl

/-- Settles O27: `clamp` is a minimum of a maximum, the bounds of R830 are those of the profile's two registers,
and the legal range is `targetFreq_mem`. -/
theorem targetsFollowProfileAndPitch : Obligations.TargetsFollowProfileAndPitch := by
  intro s k p mn mx nom pitch
  have hmin : effMin p = mn := effMin_eq p
  have hmax : effMax p = mx := effMax_eq p
  have hnom : effNominal p = nom := by rw [effNominal, hmin, hmax]; rfl
  have hpitch : effPitch s = pitch := rfl
  refine ⟨hpitch, rfl, ?_, fun h => targetFreq_mem h k, rfl⟩
  rw [targetFreq_eq, hmin, hmax, hnom, hpitch]
  rfl

theorem Speed.code_eq_two_iff (k : Speed) : k.code = 2 ↔ k = .rpm78 := by cases k <;> decide

theorem Speed.code_ne_three (k : Speed) : k.code ≠ 3 := by cases k <;> decide

/-- R605: code 3 of BOOT_SPEED stands for the last speed, and 33 RPM takes the place of a disabled 78 RPM. -/
theorem code_bootSpeed (c : GlobalConfig) :
    (bootSpeed c).code =
      let k := if c.bootSpeed.code = 3 then c.lastSpeed.code else c.bootSpeed.code
      if k = 2 ∧ c.en78 = false then 0 else k := by
  unfold bootSpeed
  cases c.bootSpeed with
  | fixed k =>
    simp only [BootSpeed.code, k.code_ne_three, if_false, k.code_eq_two_iff]
    split <;> rfl
  | lastUsed =>
    simp only [BootSpeed.code, if_true, c.lastSpeed.code_eq_two_iff]
    split <;> rfl

/-! ## What the relay evaluation of a command leaves (R606, R760, R903) -/

/-- R606: Starting entry, whose latches the relay evaluation leaves alone. -/
theorem startingEntered_relayEval_doStart {s u : State} (h : u.timeMs = s.timeMs) :
    StartingEntered s (relayEval (doStart u)) :=
  ⟨rfl, h, rfl, rfl, rfl, rfl, rfl, rfl, rfl⟩

/-- R903: while CRIT_MUTE is set no relay is desired, so none stays engaged. -/
theorem relayN_relayEval_of_critMute {s : State} (h : s.status.critMute = true) :
    (relayEval s).misc.relayN = 0 := by
  have hdesired : relayDesired s = false := by simp [relayDesired, h]
  simp [relayEval, hdesired]

/-! ## INIT (R611) -/

/-- R611: what the first INIT writes before it chooses the boot state. -/
def initialised (s : State) : State :=
  { s with
    pitchRaw := 0
    status := { s.status with speedIdx := bootSpeed s.cfg, sysinit := true, wdtArmed := true }
    latches := { s.latches with wdtFeed := s.timeMs, lastUpdate := s.timeMs } }

/-- R611: the first INIT stays in its state, enters Stopped, or enters Starting through Stopped. -/
theorem initBody_cases (s : State) :
    (s.cfg.autoBoot = false ∧ initBody s = initialised s)
      ∨ (s.cfg.autoBoot = true ∧ s.cfg.autoStart = false ∧ initBody s = (initialised s).enter .stopped)
      ∨ (s.cfg.autoBoot = true ∧ s.cfg.autoStart = true
          ∧ initBody s = doStart ((initialised s).enter .stopped)) := by
  rcases bootState_cases { s with status.speedIdx := bootSpeed s.cfg, pitchRaw := 0 }
    with ⟨hb, e⟩ | ⟨hb, ha, e⟩ | ⟨hb, ha, e⟩ <;> unfold initBody <;> dsimp only <;> rw [e]
  · exact .inl ⟨hb, rfl⟩
  · exact .inr (.inl ⟨hb, ha, rfl⟩)
  · exact .inr (.inr ⟨hb, ha, rfl⟩)

theorem exec_init_of_sysinit {s : State} (h : s.status.sysinit = true) : exec .init s = .next s := by
  rw [exec, execInit, if_pos h]

theorem exec_init_of_not_sysinit {s : State} (h : s.status.sysinit = false) :
    exec .init s = .next (relayEval (initBody s)) := by
  rw [exec, execInit, if_neg (by rw [h]; exact Bool.false_ne_true)]

/-- Settles O11: one case per boot state. -/
theorem initCompletes : Obligations.InitCompletes := by
  refine fun s => ⟨exec_init_of_sysinit, fun hs => ⟨_, exec_init_of_not_sysinit hs, ?_⟩⟩
  have hspeed := code_bootSpeed s.cfg
  rcases initBody_cases s with ⟨hb, e⟩ | ⟨hb, ha, e⟩ | ⟨hb, ha, e⟩ <;> rw [e]
  · exact ⟨rfl, rfl, rfl, rfl, rfl, hspeed, fun _ => ⟨rfl, rfl⟩, by simp [hb], by simp [hb], by simp [hb],
      fun _ => ⟨rfl, rfl, rfl, rfl, rfl, rfl, rfl⟩, relayEval_relayEvaluated _ _ rfl rfl rfl, rfl, fun _ => rfl⟩
  · exact ⟨rfl, rfl, rfl, rfl, rfl, hspeed, by simp [hb], fun _ => rfl, fun _ _ => rfl, by simp [ha],
      fun _ => ⟨rfl, rfl, rfl, rfl, rfl, rfl, rfl⟩, relayEval_relayEvaluated _ _ rfl rfl rfl, rfl, fun _ => rfl⟩
  · exact ⟨rfl, rfl, rfl, rfl, rfl, hspeed, by simp [hb], fun _ => rfl, by simp [ha],
      fun _ _ => startingEntered_relayEval_doStart rfl, by simp [hb, ha],
      relayEval_relayEvaluated _ _ rfl rfl rfl, rfl, fun _ => rfl⟩

/-! ## START, STOP, TOGGLE_STANDBY and WAKE (R613 to R616) -/

/-- Settles O12: START enters Starting from rest, and elsewhere clears CRIT_MUTE alone. -/
theorem startCompletes : Obligations.StartCompletes := by
  refine fun s hs => ⟨relayEval (startBody s), gated_of_sysinit hs, ?_⟩
  rcases startBody_cases s with ⟨hm, e⟩ | ⟨hm, e⟩ | ⟨hm, e⟩ <;> rw [e]
  · exact ⟨rfl, fun _ => startingEntered_relayEval_doStart rfl, fun h => absurd (.inl hm) h,
      relayEval_relayEvaluated _ _ rfl rfl rfl, rfl, fun _ => rfl⟩
  · exact ⟨rfl, fun _ => startingEntered_relayEval_doStart rfl, fun h => absurd (.inr hm) h,
      relayEval_relayEvaluated _ _ rfl rfl rfl, rfl, fun _ => rfl⟩
  · exact ⟨rfl, fun h => absurd h hm, fun _ => rfl, relayEval_relayEvaluated _ _ rfl rfl rfl, rfl,
      fun _ => rfl⟩

/-- R614: STOP latches and enters Stopping where the motor is driven up, and does nothing elsewhere. -/
theorem stopBody_cases (s : State) :
    ((s.status.motor = .starting ∨ s.status.motor = .running)
        ∧ stopBody s =
          { s.enter .stopping with
            status := { s.status with motor := .stopping, swActive := false }
            latches := { s.latches with
              stopA0 := s.curAmp.setWidth 32, stopF0 := s.curFreq
              stopTgt := u32 (targetFreq s s.status.speedIdx), stopTamp := u32 (targetAmp s) } })
      ∨ (¬(s.status.motor = .starting ∨ s.status.motor = .running) ∧ stopBody s = s) := by
  unfold stopBody
  split
  · next hm => exact .inl ⟨hm, rfl⟩
  · next hm => exact .inr ⟨hm, rfl⟩

/-- Settles O13: STOP's two cases. -/
theorem stopCompletes : Obligations.StopCompletes := by
  refine fun s hs => ⟨relayEval (stopBody s), gated_of_sysinit hs, ?_⟩
  rcases stopBody_cases s with ⟨hm, e⟩ | ⟨hm, e⟩ <;> rw [e]
  · exact ⟨fun _ => ⟨rfl, rfl, rfl, rfl, rfl, rfl, rfl⟩, fun h => absurd hm h,
      relayEval_relayEvaluated _ _ rfl rfl rfl, rfl, fun _ => rfl⟩
  · exact ⟨fun h => absurd h hm, fun _ => ⟨rfl, rfl, rfl⟩,
      relayEval_relayEvaluated _ _ rfl rfl rfl, rfl, fun _ => rfl⟩

/-- R615: TOGGLE_STANDBY leaves Standby for Stopped, and enters Standby from every other state. -/
theorem toggleStandbyBody_cases (s : State) :
    (s.status.motor = .standby
        ∧ toggleStandbyBody s = { s with status.critMute := false }.enter .stopped)
      ∨ (s.status.motor ≠ .standby
        ∧ toggleStandbyBody s =
          { s with status := { s.status with critMute := false, swActive := false } }.enter .standby) := by
  unfold toggleStandbyBody
  dsimp only
  split
  · next hm => exact .inl ⟨hm, rfl⟩
  · next hm => exact .inr ⟨hm, rfl⟩

/-- Settles O14: TOGGLE_STANDBY's two cases. -/
theorem toggleStandbyCompletes : Obligations.ToggleStandbyCompletes := by
  refine fun s hs => ⟨relayEval (toggleStandbyBody s), gated_of_sysinit hs, ?_⟩
  rcases toggleStandbyBody_cases s with ⟨hm, e⟩ | ⟨hm, e⟩ <;> rw [e]
  · exact ⟨rfl, rfl, fun _ => ⟨rfl, rfl⟩, fun h => absurd hm h,
      relayEval_relayEvaluated _ _ rfl rfl rfl, rfl, fun _ => rfl⟩
  · exact ⟨rfl, rfl, fun h => absurd h hm, fun _ => ⟨rfl, rfl⟩,
      relayEval_relayEvaluated _ _ rfl rfl rfl, rfl, fun _ => rfl⟩

/-- R616: WAKE leaves Standby for Stopped, and elsewhere clears CRIT_MUTE alone. -/
theorem wakeBody_cases (s : State) :
    (s.status.motor = .standby ∧ wakeBody s = { s with status.critMute := false }.enter .stopped)
      ∨ (s.status.motor ≠ .standby ∧ wakeBody s = { s with status.critMute := false }) := by
  unfold wakeBody
  dsimp only
  split
  · next hm => exact .inl ⟨hm, rfl⟩
  · next hm => exact .inr ⟨hm, rfl⟩

/-- Settles O15: WAKE's two cases. -/
theorem wakeCompletes : Obligations.WakeCompletes := by
  refine fun s hs => ⟨relayEval (wakeBody s), gated_of_sysinit hs, ?_⟩
  rcases wakeBody_cases s with ⟨hm, e⟩ | ⟨hm, e⟩ <;> rw [e]
  · exact ⟨rfl, fun _ => ⟨rfl, rfl⟩, fun h => absurd hm h,
      relayEval_relayEvaluated _ _ rfl rfl rfl, rfl, fun _ => rfl⟩
  · exact ⟨rfl, fun h => absurd h hm, fun _ => ⟨rfl, rfl⟩,
      relayEval_relayEvaluated _ _ rfl rfl rfl, rfl, fun _ => rfl⟩

/-! ## The speed (R617 to R619) -/

theorem runningFreq_of_not_swActive {s : State} (h : s.status.swActive = false) (tgt : Int) :
    runningFreq tgt s = (tgt, false) := by
  rw [runningFreq, if_neg (by rw [h]; exact Bool.false_ne_true)]

/-- R735: an UPDATE in Running with no switch ramp drives the target frequency. -/
theorem exec_update_of_not_swActive {t : State} (hs : t.status.sysinit = true)
    (hm : t.status.motor = .running) (hsw : t.status.swActive = false) :
    ∃ u, exec .update t = .next u ∧ u.curFreq = u32 (targetFreq t t.status.speedIdx) := by
  have hfreq := runningFreq_of_not_swActive
    (s := countRuntime (t.elapsed t.latches.lastUpdate) (bookTime t)) hsw (targetFreq t t.status.speedIdx)
  exact ⟨_, exec_update_of_running hs hm (evalState_of_running _ hm), congrArg (fun r : Int × Bool => u32 r.1) hfreq⟩

/-- R619, D27: the speed change of a command, whatever the new speed. -/
theorem speedChanged_relayEval_changeSpeed (n : Speed) {s : State} (hs : s.status.sysinit = true) :
    SpeedChanged s (relayEval (changeSpeed n s)) n := by
  rcases changeSpeed_cases n s with ⟨hn, e⟩ | ⟨hn, hm, hsm, e⟩ | ⟨hn, hsnap, e⟩ <;> rw [e]
  · exact ⟨hn.symm, fun h => absurd hn h.1, fun h => absurd hn h.1, fun h => absurd hn h.1, fun _ => rfl,
      fun _ => ⟨rfl, rfl, rfl⟩, relayEval_relayEvaluated _ _ rfl rfl rfl, rfl, fun _ => rfl⟩
  · exact ⟨rfl, fun _ => ⟨rfl, rfl, rfl, rfl⟩, fun h => absurd ⟨hm, hsm⟩ h.2,
      fun h => absurd (hsm.symm.trans h.2.2) (by decide), fun h => absurd h hn,
      fun h => absurd ⟨hn, hm, hsm⟩ h, relayEval_relayEvaluated _ _ rfl rfl rfl, rfl, fun _ => rfl⟩
  · exact ⟨rfl, fun h => absurd h.2 hsnap, fun _ => rfl,
      fun ⟨_, hm, _⟩ now => exec_update_of_not_swActive hs hm rfl, fun h => absurd h hn,
      fun _ => ⟨rfl, rfl, rfl⟩, relayEval_relayEvaluated _ _ rfl rfl rfl, rfl, fun _ => rfl⟩

/-- Settles O16: the cycle's next speed, then the speed change. -/
theorem cycleSpeedCompletes : Obligations.CycleSpeedCompletes := by
  intro s hs
  have hchanged {k : Speed} (hk : nextSpeed s.status.speedIdx s.cfg.en78 = k) :
      SpeedChanged s (relayEval (changeSpeed (nextSpeed s.status.speedIdx s.cfg.en78) s)) k :=
    hk ▸ speedChanged_relayEval_changeSpeed _ hs
  exact ⟨_, gated_of_sysinit hs, fun h => hchanged (by rw [h]; rfl), fun h => hchanged (by rw [h]; rfl),
    fun h => hchanged (by rw [h]; rfl)⟩

/-- R618: SET_SPEED with an operand it accepts. -/
theorem exec_setSpeed_of_accepted {n : Nat} {k : Speed} {s : State} (hs : s.status.sysinit = true)
    (h : speedOperand n s.cfg.en78 = some k) :
    ∃ t, exec (.setSpeed n) s = .next t ∧ SpeedChanged s t k := by
  have hbody : setSpeedBody n s = changeSpeed k s := by rw [setSpeedBody, h]
  exact ⟨_, gated_of_sysinit hs, hbody ▸ speedChanged_relayEval_changeSpeed k hs⟩

/-- R618: the operands SET_SPEED rejects. -/
theorem speedOperand_eq_none {n : Nat} {en78 : Bool} (h : n = 3 ∨ (n = 2 ∧ en78 = false)) :
    speedOperand n en78 = none := by
  rcases h with rfl | ⟨rfl, rfl⟩ <;> rfl

/-- Settles O17: three accepted operands, and the rejected ones, after which the relays are evaluated too. -/
theorem setSpeedCompletes : Obligations.SetSpeedCompletes := by
  refine fun s hs => ⟨exec_setSpeed_of_accepted hs rfl, exec_setSpeed_of_accepted hs rfl,
    fun h78 => exec_setSpeed_of_accepted hs (by rw [h78]; rfl), fun n hn => ?_⟩
  have hbody : setSpeedBody n s = raise .cmderr s := by rw [setSpeedBody, speedOperand_eq_none hn]
  refine ⟨_, gated_of_sysinit hs, ?_⟩
  rw [hbody]
  exact ⟨rfl, relayEval_relayEvaluated _ _ rfl rfl rfl, rfl, fun _ => rfl⟩

/-! ## The pitch (R620, R621) -/

/-- R620: the stored pitch reads back as the clamped operand. -/
theorem s32_pitchOperand (v : Int) : s32 (pitchOperand v) = min (max v (-5000)) 5000 := by
  obtain ⟨hlo, hhi⟩ := clamp_mem v (-5000) 5000 (by omega)
  exact s32_u32 (by omega) (by omega)

theorem exec_setPitch_of_sysinit {s : State} (hs : s.status.sysinit = true) (v : Int) :
    exec (.setPitch v) s = .next (relayEval { s with pitchRaw := pitchOperand v }) :=
  gated_of_sysinit (body := fun s => { s with pitchRaw := pitchOperand v }) hs

theorem exec_resetPitch_of_sysinit {s : State} (hs : s.status.sysinit = true) :
    exec .resetPitch s = .next (relayEval { s with pitchRaw := 0 }) :=
  gated_of_sysinit (body := fun s => { s with pitchRaw := 0 }) hs

/-- Settles O18: both commands store a pitch and evaluate the relays. -/
theorem pitchCommandsComplete : Obligations.PitchCommandsComplete := fun _ hs =>
  ⟨fun v => ⟨_, exec_setPitch_of_sysinit hs v, s32_pitchOperand v,
      relayEval_relayEvaluated _ _ rfl rfl rfl, rfl, fun _ => rfl⟩,
    _, exec_resetPitch_of_sysinit hs, rfl, relayEval_relayEvaluated _ _ rfl rfl rfl, rfl, fun _ => rfl⟩

/-! ## REPORT_ERROR and LOAD_DEFAULTS (R622, R623) -/

/-- R622, R902: the display time as a number. -/
theorem toNat_displayMs (crit : Bool) (c : GlobalConfig) :
    (displayMs crit c).toNat =
      if crit = true then max c.errDispMs.toNat 10000 else c.errDispMs.toNat := by
  rw [displayMs]
  split
  · have := c.errDispMs.isLt
    rw [BitVec.toNat_ofNat, Nat.mod_eq_of_lt (by rw [Config.critDisplayMinMs]; omega)]
  · rfl

theorem ErrorKind.code_eq_two_iff (k : ErrorKind) : k.code = 2 ↔ k = .settingsCorrupt := by
  cases k <;> decide

/-- R622: a critical report sets CRIT_MUTE. -/
theorem recordError_critMute_of_crit {crit : Bool} (h : crit = true) (k : ErrorKind) (s : State) :
    (recordError k crit s).status.critMute = true := by
  rw [recordError_status_critMute, h, Bool.or_true]

/-- Settles O19: a report that is recorded, without and with the defaults loaded. -/
theorem reportErrorRecords : Obligations.ReportErrorRecords := by
  intro s kind crit hkind
  refine ⟨reportErrorBody kind crit s, rfl, ?_⟩
  have hdisplay := toNat_displayMs crit s.cfg
  rcases reportErrorBody_cases kind crit s with ⟨hreject, -⟩ | ⟨k, rfl, ⟨hk, e⟩ | ⟨hk, e⟩⟩
  · omega
  · rw [e, Ne, k.code_eq_two_iff]
    exact ⟨rfl, rfl, rfl, hdisplay, rfl, rfl,
      fun h => relayN_relayEval_of_critMute (recordError_critMute_of_crit h k s),
      fun h => absurd h hk, fun _ => ⟨rfl, rfl⟩, relayEval_relayEvaluated _ _ rfl rfl rfl,
      rfl, fun _ => rfl⟩
  · rw [e, Ne, k.code_eq_two_iff]
    exact ⟨rfl, rfl, rfl, hdisplay, rfl, rfl,
      fun h => relayN_relayEval_of_critMute (recordError_critMute_of_crit h k s),
      fun _ => ⟨rfl, rfl⟩, fun h => absurd hk h, relayEval_relayEvaluated _ _ rfl rfl rfl,
      rfl, fun _ => rfl⟩

/-- Settles O21: the defaults are legal, and LOAD_DEFAULTS writes nothing else before the relay evaluation. -/
theorem loadDefaultsCompletes : Obligations.LoadDefaultsCompletes := fun s =>
  ⟨relayEval (restoreDefaults s), rfl, rfl, rfl, configLegal_default,
    relayEval_relayEvaluated _ _ rfl rfl rfl, rfl, fun _ => rfl⟩

end Sys2Proof.Machine
end

section
/-!
PROOFS. The motor state's transitions (spec/42_motor_commands.md R601): the ones each command's body makes, that no
other agent makes any, and the watchdog's.
-/

namespace Sys2Proof.Machine

open Sys2Proof

/-! ## The table (R601) -/

/-- R601: the transitions of the commands other than INIT. -/
def commandTransitions : List (Instr × MotorState × MotorState) :=
  [(.start, .standby, .starting), (.start, .stopped, .starting),
   (.stop, .starting, .stopping), (.stop, .running, .stopping),
   (.toggleStandby, .standby, .stopped), (.toggleStandby, .stopped, .standby),
   (.toggleStandby, .starting, .standby), (.toggleStandby, .running, .standby),
   (.toggleStandby, .stopping, .standby), (.wake, .standby, .stopped),
   (.update, .stopped, .standby), (.update, .starting, .running),
   (.update, .stopping, .stopped)]

/-- R601: under command `i`, the motor state `m` stays or makes one of the table's transitions to `m'`. -/
abbrev MotorMoves (i : Instr) (m m' : MotorState) : Prop := m' = m ∨ (i, m, m') ∈ commandTransitions

/-! ## The commands' bodies (R611 to R619) -/

/-- R611: the state the first INIT enters where it boots. -/
theorem initBody_motor (s : State) :
    (initBody s).status.motor = s.status.motor
      ∨ (s.cfg.autoBoot = true
          ∧ (initBody s).status.motor = if s.cfg.autoStart = true then .starting else .stopped) := by
  rcases initBody_cases s with ⟨-, e⟩ | ⟨hb, ha, e⟩ | ⟨hb, ha, e⟩ <;> rw [e]
  · exact .inl rfl
  · exact .inr ⟨hb, by rw [ha]; rfl⟩
  · exact .inr ⟨hb, by rw [if_pos ha]; rfl⟩

/-- R700: the evaluation of the motor state makes UPDATE's three transitions. -/
theorem evalState_motorMoves (L : LutBits) (s : State) :
    MotorMoves .update s.status.motor (evalState L s).2.status.motor := by
  rcases evalState_cases L s with e | ⟨hm, e⟩ | ⟨hm, e⟩ | ⟨-, _, _, e⟩ | ⟨hm, e⟩ <;> rw [e]
  · exact .inl rfl
  · rw [hm, enter_status_motor]; decide
  · rw [hm, enterRunning_status_motor]; decide
  · exact .inl rfl
  · rw [hm, enter_status_motor]; decide

theorem publish_status_motor (b : DdsBlock) (s : State) :
    (publish b s).status.motor = s.status.motor := by
  rcases publish_cases b s with ⟨-, e⟩ | ⟨-, -, e⟩ | ⟨-, -, e⟩ <;> rw [e]

theorem updateBody_motorMoves (L : LutBits) (s : State) :
    MotorMoves .update s.status.motor (updateBody L s).status.motor := by
  by_cases hm : s.status.motor = .running
  · rw [updateBody_of_running L hm, writeStatusBus_status, publish_status_motor]
    exact evalState_motorMoves L (countRuntime _ (bookTime s))
  · rw [updateBody_of_not_running L hm, writeStatusBus_status, publish_status_motor]
    exact evalState_motorMoves L (bookTime s)

theorem startBody_motorMoves (s : State) :
    MotorMoves .start s.status.motor (startBody s).status.motor := by
  rcases startBody_cases s with ⟨hm, e⟩ | ⟨hm, e⟩ | ⟨-, e⟩ <;> rw [e]
  · rw [hm, doStart_status_motor]; decide
  · rw [hm, doStart_status_motor]; decide
  · exact .inl rfl

theorem stopBody_motorMoves (s : State) :
    MotorMoves .stop s.status.motor (stopBody s).status.motor := by
  rcases stopBody_cases s with ⟨hm | hm, e⟩ | ⟨-, e⟩ <;> rw [e]
  · rw [hm]; exact (by decide : MotorMoves .stop .starting .stopping)
  · rw [hm]; exact (by decide : MotorMoves .stop .running .stopping)
  · exact .inl rfl

/-- R615: TOGGLE_STANDBY has a transition from each of the five states. -/
theorem toggleStandbyBody_motorMoves (s : State) :
    MotorMoves .toggleStandby s.status.motor (toggleStandbyBody s).status.motor := by
  rcases toggleStandbyBody_cases s with ⟨hm, e⟩ | ⟨hm, e⟩ <;> rw [e, enter_status_motor]
  · rw [hm]; decide
  · cases hs : s.status.motor with
    | standby => exact absurd hs hm
    | stopped | starting | running | stopping => decide

theorem wakeBody_motorMoves (s : State) :
    MotorMoves .wake s.status.motor (wakeBody s).status.motor := by
  rcases wakeBody_cases s with ⟨hm, e⟩ | ⟨-, e⟩ <;> rw [e]
  · rw [hm, enter_status_motor]; decide
  · exact .inl rfl

/-- R617, R618: a speed change is no transition. -/
theorem changeSpeed_status_motor (n : Speed) (s : State) :
    (changeSpeed n s).status.motor = s.status.motor := by
  rcases changeSpeed_cases n s with ⟨-, e⟩ | ⟨-, -, -, e⟩ | ⟨-, -, e⟩ <;> rw [e]

/-- R622: nor is a report. -/
theorem reportErrorBody_status_motor (kind : Nat) (crit : Bool) (s : State) :
    (reportErrorBody kind crit s).status.motor = s.status.motor := by
  rcases reportErrorBody_cases kind crit s with ⟨-, e⟩ | ⟨_, -, ⟨-, e⟩ | ⟨-, e⟩⟩ <;> rw [e] <;> rfl

/-- R601: a command other than the first INIT makes the table's transitions. -/
theorem exec_motorMoves {i : Instr} {s t : State} (h : exec i s = .next t) :
    (i = .init ∧ s.status.sysinit = false ∧ t = relayEval (initBody s))
      ∨ MotorMoves i s.status.motor t.status.motor := by
  rcases exec_cases h with e | ⟨rfl, hs, e⟩ | ⟨rfl, -, e⟩ | ⟨rfl, -, e⟩ | ⟨rfl, -, e⟩ | ⟨rfl, -, e⟩
    | ⟨rfl, -, e⟩ | ⟨k, -, -, e⟩ | ⟨-, -, e⟩ | ⟨p, -, -, -, -, e⟩ | ⟨k, c, -, e⟩ | ⟨-, e⟩
  case inr.inl => exact .inl ⟨rfl, hs, e⟩
  all_goals subst e; refine .inr ?_
  · exact .inl rfl
  · exact updateBody_motorMoves _ s
  · exact startBody_motorMoves s
  · exact stopBody_motorMoves s
  · exact toggleStandbyBody_motorMoves s
  · exact wakeBody_motorMoves s
  · exact .inl (changeSpeed_status_motor k s)
  · exact .inl rfl
  · exact .inl rfl
  · exact .inl (reportErrorBody_status_motor k c s)
  · exact .inl rfl

/-! ## The agents and the step (R6, R931) -/

/-- R916: of the agents' steps, only a command changes the motor state. -/
theorem agentStep_motor {a : AgentStep} {s t : State} (h : agentStep a s = .next t) :
    t.status.motor = s.status.motor
      ∨ ∃ w i, a = .hostWrite 0x004 4 w ∧ decode w = .ok i ∧ exec i s = .next t := by
  rcases agentStep_cases h with ⟨off, n, -, e⟩ | ⟨_, _, _, -, -, e⟩ | hexec | ⟨_, _, -, -, e⟩
    | ⟨_, _, v, r, -, -, -, e⟩ | ⟨-, -, e⟩ | ⟨-, -, e⟩ | ⟨k, -, -, e⟩ | ⟨-, e⟩
  case inr.inr.inl => exact .inr hexec
  all_goals subst e; refine .inl ?_
  · rcases hostRead_eq off n s with e | e <;> rw [e]
  · rfl
  · rfl
  · rcases writeReg_cases r v s with ⟨-, e⟩ | ⟨_, -, e⟩ | ⟨_, _, -, e⟩ | e <;> rw [e]
  · exact refill_induct _ _ s (fun t => t.status.motor = s.status.motor) fun _ _ _ _ _ _ _ _ _ _ => rfl
  · rcases tick_cases s with ⟨-, e⟩ | ⟨-, e⟩ <;> rw [e]
  · rfl
  · rfl

/-- Settles O31: a changed motor state comes from a command, by the table or as the first INIT from the rest
that precedes it, and from the watchdog's reset otherwise. -/
theorem motorTransitionsAreTheTable : Obligations.MotorTransitionsAreTheTable := by
  refine ⟨fun s t hrest hd hstep hne => ?_, fun s hd => ⟨wdtReset s, ?_, rfl⟩⟩
  · rcases step_cases_next hstep with ⟨hdue, -⟩ | ⟨-, sch, n, hagent⟩
    · exact absurd hdue hd
    rcases agentStep_motor hagent with hsame | ⟨w, i, hnext, hdecode, hexec⟩
    · exact absurd hsame hne
    refine ⟨w, i, hnext, hdecode, ?_⟩
    rcases exec_motorMoves hexec with ⟨hinit, hs, rfl⟩ | hsame | htable
    · rcases initBody_motor { s with schedule := sch, choices := n } with hsame | ⟨hboot, hmotor⟩
      · exact absurd hsame hne
      · obtain ⟨hstandby, -⟩ := hrest hs
        exact .inr ⟨hinit, hs, hboot, hstandby, hmotor⟩
    · exact absurd hsame hne
    · exact .inl htable
  · rw [step, if_pos ((wdtDue_iff s).2 hd)]

end Sys2Proof.Machine
end

section
/-!
PROOFS. The watchdog's bookkeeping and the rest before INIT (spec/43_motor_update.md R701, spec/60_exceptions.md
R930, spec/70_reset_and_hazards.md R1011, R1024): who writes the registers the two invariants speak of, and
their preservation by each step.
-/

namespace Sys2Proof.Machine

open Sys2Proof

/-! ## The watchdog's books (R701, R930) -/

/-- What `WatchdogKept` depends on is the same in both states. -/
structure BooksKept (s t : State) : Prop where
  sysinit    : t.status.sysinit = s.status.sysinit
  wdtArmed   : t.status.wdtArmed = s.status.wdtArmed
  timeMs     : t.timeMs = s.timeMs
  wdtFeed    : t.latches.wdtFeed = s.latches.wdtFeed
  lastUpdate : t.latches.lastUpdate = s.latches.lastUpdate

/-- R611, R701: the first INIT and every UPDATE feed the watchdog, and INIT arms it. -/
structure BooksFed (s t : State) : Prop where
  sysinit    : t.status.sysinit = true
  wdtArmed   : t.status.wdtArmed = (s.status.wdtArmed || !s.status.sysinit)
  wdtFeed    : t.latches.wdtFeed = t.timeMs
  lastUpdate : t.latches.lastUpdate = t.timeMs

theorem BooksKept.watchdogKept {s t : State} (e : BooksKept s t) (h : WatchdogKept s) : WatchdogKept t := by
  unfold WatchdogKept State.elapsed
  rw [e.sysinit, e.wdtArmed, e.timeMs, e.wdtFeed, e.lastUpdate]
  exact h

/-- Right after a feed no time has passed. -/
theorem BooksFed.watchdogKept {s t : State} (e : BooksFed s t) (h : WatchdogKept s) : WatchdogKept t := by
  refine ⟨fun _ => ⟨?_, e.lastUpdate.trans e.wdtFeed.symm⟩, fun _ => ?_⟩
  · rw [e.wdtArmed]
    cases hs : s.status.sysinit with
    | false => exact Bool.or_true _
    | true => rw [(h.1 hs).1]; rfl
  · rw [State.elapsed, e.wdtFeed, BitVec.sub_self]
    exact Nat.zero_le _

/-- R920: CLK lets one more millisecond pass, which a reset that is not yet due leaves room for. -/
theorem watchdogKept_clk {s : State} (hd : ¬ResetDue s) (h : WatchdogKept s) : WatchdogKept (clk s) := by
  refine ⟨h.1, fun harmed => ?_⟩
  have hlt : (s.timeMs - s.latches.wdtFeed).toNat < 2000 := Nat.lt_of_not_le fun hle => hd ⟨harmed, hle⟩
  rw [State.elapsed, clk_timeMs, clk_latches, Config.wdtTimeoutMs]
  bv_omega

/-! ## Who writes the books -/

theorem BooksFed.of_kept {s t u : State} (h : BooksFed s t) (e : BooksKept t u) : BooksFed s u :=
  ⟨e.sysinit.trans h.sysinit, e.wdtArmed.trans h.wdtArmed, e.wdtFeed.trans (h.wdtFeed.trans e.timeMs.symm),
    e.lastUpdate.trans (h.lastUpdate.trans e.timeMs.symm)⟩

theorem publish_booksKept (b : DdsBlock) (s : State) : BooksKept s (publish b s) := by
  rcases publish_cases b s with ⟨-, e⟩ | ⟨-, -, e⟩ | ⟨-, -, e⟩ <;> rw [e] <;> exact ⟨rfl, rfl, rfl, rfl, rfl⟩

theorem evalState_booksKept (L : LutBits) (s : State) : BooksKept s (evalState L s).2 := by
  rcases evalState_cases L s with e | ⟨-, e⟩ | ⟨-, e⟩ | ⟨-, _, _, e⟩ | ⟨-, e⟩ <;> rw [e] <;>
    exact ⟨rfl, rfl, rfl, rfl, rfl⟩

/-- R611: the first INIT arms and feeds the watchdog, whichever state it boots into. -/
theorem initBody_booksFed {s : State} (hs : s.status.sysinit = false) : BooksFed s (initBody s) := by
  have harmed : true = (s.status.wdtArmed || !s.status.sysinit) := by rw [hs]; exact (Bool.or_true _).symm
  rcases initBody_cases s with ⟨-, e⟩ | ⟨-, -, e⟩ | ⟨-, -, e⟩ <;> rw [e] <;> exact ⟨rfl, harmed, rfl, rfl⟩

/-- R700, R701: UPDATE books the time first, and nothing after that touches the books. -/
theorem updateBody_booksFed (L : LutBits) {s : State} (hs : s.status.sysinit = true) :
    BooksFed s (updateBody L s) := by
  have harmed : s.status.wdtArmed = (s.status.wdtArmed || !s.status.sysinit) := by
    rw [hs]; exact (Bool.or_false _).symm
  have htail {u : State} (hu : BooksFed s u) : BooksFed s (writeStatusBus (evalState L u).1
      (publish (buildBlock (evalState L u).2 (evalState L u).1 (profileInUse (evalState L u).2))
        (evalState L u).2)) :=
    (hu.of_kept (evalState_booksKept L u)).of_kept { publish_booksKept _ _ with }
  by_cases hm : s.status.motor = .running
  · rw [updateBody_of_running L hm]
    exact htail ⟨hs, harmed, rfl, rfl⟩
  · rw [updateBody_of_not_running L hm]
    exact htail ⟨hs, harmed, rfl, rfl⟩

/-- R916: of the commands, only the first INIT and UPDATE write the books. -/
theorem exec_books {i : Instr} {s t : State} (h : exec i s = .next t) : BooksKept s t ∨ BooksFed s t := by
  rcases exec_cases h with e | ⟨-, hs, e⟩ | ⟨-, hs, e⟩ | ⟨-, -, e⟩ | ⟨-, -, e⟩ | ⟨-, -, e⟩ | ⟨-, -, e⟩
    | ⟨k, -, -, e⟩ | ⟨-, -, e⟩ | ⟨p, -, -, -, -, e⟩ | ⟨k, c, -, e⟩ | ⟨-, e⟩ <;> subst e
  case inr.inl => exact .inr ((initBody_booksFed hs).of_kept ⟨rfl, rfl, rfl, rfl, rfl⟩)
  case inr.inr.inl => exact .inr ((updateBody_booksFed _ hs).of_kept ⟨rfl, rfl, rfl, rfl, rfl⟩)
  all_goals left
  · exact ⟨rfl, rfl, rfl, rfl, rfl⟩
  · rcases startBody_cases s with ⟨-, e⟩ | ⟨-, e⟩ | ⟨-, e⟩ <;> rw [e] <;> exact ⟨rfl, rfl, rfl, rfl, rfl⟩
  · rcases stopBody_cases s with ⟨-, e⟩ | ⟨-, e⟩ <;> rw [e] <;> exact ⟨rfl, rfl, rfl, rfl, rfl⟩
  · rcases toggleStandbyBody_cases s with ⟨-, e⟩ | ⟨-, e⟩ <;> rw [e] <;> exact ⟨rfl, rfl, rfl, rfl, rfl⟩
  · rcases wakeBody_cases s with ⟨-, e⟩ | ⟨-, e⟩ <;> rw [e] <;> exact ⟨rfl, rfl, rfl, rfl, rfl⟩
  · rcases changeSpeed_cases k s with ⟨-, e⟩ | ⟨-, -, -, e⟩ | ⟨-, -, e⟩ <;> rw [e] <;>
      exact ⟨rfl, rfl, rfl, rfl, rfl⟩
  · exact ⟨rfl, rfl, rfl, rfl, rfl⟩
  · exact ⟨rfl, rfl, rfl, rfl, rfl⟩
  · rcases reportErrorBody_cases k c s with ⟨-, e⟩ | ⟨_, -, ⟨-, e⟩ | ⟨-, e⟩⟩ <;> rw [e] <;>
      exact ⟨rfl, rfl, rfl, rfl, rfl⟩
  · exact ⟨rfl, rfl, rfl, rfl, rfl⟩

/-- R916: an agent's step keeps the books, feeds the watchdog by a command, or is CLK's. -/
theorem agentStep_books {a : AgentStep} {s t : State} (h : agentStep a s = .next t) :
    BooksKept s t ∨ BooksFed s t ∨ t = clk s := by
  rcases agentStep_cases h with ⟨off, n, -, e⟩ | ⟨_, _, _, -, -, e⟩ | ⟨_, i, -, -, hexec⟩ | ⟨_, _, -, -, e⟩
    | ⟨_, _, v, r, -, -, -, e⟩ | ⟨-, -, e⟩ | ⟨-, -, e⟩ | ⟨k, -, -, e⟩ | ⟨-, e⟩
  case inr.inr.inl => exact (exec_books hexec).imp_right .inl
  case inr.inr.inr.inr.inr.inr.inr.inr => exact .inr (.inr e)
  all_goals subst e; left
  · rcases hostRead_eq off n s with e | e <;> rw [e] <;> exact ⟨rfl, rfl, rfl, rfl, rfl⟩
  · exact ⟨rfl, rfl, rfl, rfl, rfl⟩
  · exact ⟨rfl, rfl, rfl, rfl, rfl⟩
  · rcases writeReg_cases r v s with ⟨-, e⟩ | ⟨_, -, e⟩ | ⟨_, _, -, e⟩ | e <;> rw [e] <;>
      exact ⟨rfl, rfl, rfl, rfl, rfl⟩
  · exact refill_induct _ _ s (BooksKept s) fun _ _ _ _ _ _ _ _ _ _ => ⟨rfl, rfl, rfl, rfl, rfl⟩
  · rcases tick_cases s with ⟨-, e⟩ | ⟨-, e⟩ <;> rw [e] <;> exact ⟨rfl, rfl, rfl, rfl, rfl⟩
  · exact ⟨rfl, rfl, rfl, rfl, rfl⟩

/-- Every agent's step keeps the watchdog's bookkeeping where no reset is due. -/
theorem watchdogKept_agentStep {a : AgentStep} {s t : State} (hd : ¬ResetDue s) (h : WatchdogKept s)
    (hstep : agentStep a s = .next t) : WatchdogKept t := by
  rcases agentStep_books hstep with e | e | rfl
  · exact e.watchdogKept h
  · exact e.watchdogKept h
  · exact watchdogKept_clk hd h

/-- R931: the reset disarms the watchdog. -/
theorem watchdogKept_wdtReset (s : State) : WatchdogKept (wdtReset s) := by
  constructor <;> intro h <;> cases h

/-- R701, R1024: where no reset is due, less than the timeout has passed since the last UPDATE. -/
theorem elapsed_lastUpdate_le {s : State} (h : WatchdogKept s) (hs : s.status.sysinit = true)
    (hd : ¬ResetDue s) : (s.timeMs - s.latches.lastUpdate).toNat ≤ 1999 := by
  obtain ⟨harmed, hlast⟩ := h.1 hs
  rw [hlast]
  exact Nat.le_of_lt_succ (Nat.lt_of_not_le fun hle => hd ⟨harmed, hle⟩)

/-! ## Before INIT (R600, R1011) -/

/-- R1011: what rests until INIT. -/
structure AtRest (s : State) : Prop where
  motor     : s.status.motor = .standby
  wdtArmed  : s.status.wdtArmed = false
  started   : s.status.started = false
  graceDone : s.misc.graceDone = false
  relayN    : s.misc.relayN = 0

theorem beforeInitAtRest_iff (s : State) :
    BeforeInitAtRest s ↔ (s.status.sysinit = false → AtRest s) :=
  ⟨fun h hs => have ⟨hm, hw, hst, hg, hn⟩ := h hs; ⟨hm, hw, hst, hg, hn⟩,
    fun h hs => have ⟨hm, hw, hst, hg, hn⟩ := h hs; ⟨hm, hw, hst, hg, hn⟩⟩

/-- R760: in the grace period no relay is desired, so none engages. -/
theorem AtRest.relayEval {s : State} (h : AtRest s) : AtRest (relayEval s) := by
  have hdesired : relayDesired s = false := by rw [relayDesired, h.graceDone]; rfl
  exact { h with relayN := by simp [Machine.relayEval, hdesired] }

theorem AtRest.reportErrorBody {s : State} (h : AtRest s) (kind : Nat) (crit : Bool) :
    AtRest (reportErrorBody kind crit s) := by
  rcases reportErrorBody_cases kind crit s with ⟨-, e⟩ | ⟨k, -, ⟨-, e⟩ | ⟨-, e⟩⟩ <;> rw [e]
  · exact { h with }
  · exact AtRest.relayEval { h with }
  · exact AtRest.relayEval { h with }

/-- R600: a command that leaves the block before INIT leaves it at rest: INIT does not, and of the others only
REPORT_ERROR and LOAD_DEFAULTS do anything. -/
theorem AtRest.exec {i : Instr} {s t : State} (h : AtRest s) (hs : s.status.sysinit = false)
    (ht : t.status.sysinit = false) (hexec : exec i s = .next t) : AtRest t := by
  have hnot {u : State} (hu : s.status.sysinit = true) : AtRest u := absurd (hs.symm.trans hu) (by decide)
  rcases exec_cases hexec with rfl | ⟨-, -, rfl⟩ | ⟨-, hs', -⟩ | ⟨-, hs', -⟩ | ⟨-, hs', -⟩ | ⟨-, hs', -⟩
    | ⟨-, hs', -⟩ | ⟨-, -, hs', -⟩ | ⟨-, hs', -⟩ | ⟨-, -, -, -, hs', -⟩ | ⟨k, c, -, rfl⟩ | ⟨-, rfl⟩
  · exact h
  · exact absurd (ht.symm.trans (initBody_booksFed hs).sysinit) (by decide)
  iterate 8 exact hnot hs'
  · exact h.reportErrorBody k c
  · exact AtRest.relayEval { h with }

/-- R1011: no agent's step disturbs the rest before INIT: SYN and DMA have no step there. -/
theorem AtRest.agentStep {a : AgentStep} {s t : State} (h : AtRest s) (hs : s.status.sysinit = false)
    (ht : t.status.sysinit = false) (hstep : agentStep a s = .next t) : AtRest t := by
  rcases agentStep_cases hstep with ⟨off, n, -, e⟩ | ⟨_, _, _, -, -, e⟩ | ⟨_, i, -, -, hexec⟩ | ⟨_, _, -, -, e⟩
    | ⟨_, _, v, r, -, -, -, e⟩ | ⟨-, hen, -⟩ | ⟨-, hen, -⟩ | ⟨k, -, -, e⟩ | ⟨-, e⟩
  · rcases hostRead_eq off n s with e' | e' <;> rw [e, e'] <;> exact { h with }
  · exact e ▸ { h with }
  · exact h.exec hs ht hexec
  · exact e ▸ { h with }
  · rcases writeReg_cases r v s with ⟨-, e'⟩ | ⟨_, -, e'⟩ | ⟨_, _, -, e'⟩ | e' <;> rw [e, e'] <;>
      exact { h with }
  · exact absurd (hs.symm.trans ((refillEnabled_iff s).1 hen).1) (by decide)
  · exact absurd (h.started.symm.trans hen) (by decide)
  · exact e ▸ { h with }
  · exact e ▸ { h with }

/-- SYSINIT falls at a reset only. -/
theorem sysinit_agentStep {a : AgentStep} {s t : State} (hstep : agentStep a s = .next t)
    (ht : t.status.sysinit = false) : s.status.sysinit = false := by
  rcases agentStep_books hstep with e | e | rfl
  · exact e.sysinit.symm.trans ht
  · exact absurd (ht.symm.trans e.sysinit) (by decide)
  · exact ht

/-- R1011: every agent's step keeps the rest before INIT. -/
theorem beforeInitAtRest_agentStep {a : AgentStep} {s t : State} (h : BeforeInitAtRest s)
    (hstep : agentStep a s = .next t) : BeforeInitAtRest t := by
  rw [beforeInitAtRest_iff] at h ⊢
  intro ht
  have hs := sysinit_agentStep hstep ht
  exact (h hs).agentStep hs ht hstep

theorem beforeInitAtRest_wdtReset (s : State) : BeforeInitAtRest (wdtReset s) :=
  fun _ => ⟨rfl, rfl, rfl, rfl, rfl⟩

/-- Settles O52: the reset meets both invariants, and elsewhere the next agent's step keeps them. -/
theorem watchdogIsNeverOverdue : Obligations.WatchdogIsNeverOverdue := by
  refine ⟨fun s t h hstep => ?_, fun _ => elapsed_lastUpdate_le, fun s t h hstep => ?_⟩
  · rcases step_cases_next hstep with ⟨-, rfl⟩ | ⟨hd, sch, n, hagent⟩
    · exact watchdogKept_wdtReset s
    · exact watchdogKept_agentStep (s := { s with schedule := sch, choices := n }) hd h hagent
  · rcases step_cases_next hstep with ⟨-, rfl⟩ | ⟨-, sch, n, hagent⟩
    · exact beforeInitAtRest_wdtReset s
    · exact beforeInitAtRest_agentStep (s := { s with schedule := sch, choices := n }) h hagent

end Sys2Proof.Machine
end

section
/-!
PROOFS. The control tick (spec/43_motor_update.md R700 to R762): its formulas written out, the ramps and the modulator
between their ends, what UPDATE leaves in each motor state, and what RELAY reads.
-/

namespace Sys2Proof.Machine

open Sys2Proof

/-! ## The ramps (R710 to R713) -/

theorem lerp_of_le {t T : Int} (h : T ≤ t) (v0 v1 : Int) : lerp v0 v1 t T = v1 := if_pos h

theorem lerp_of_lt {t T : Int} (h : t < T) (v0 v1 : Int) : lerp v0 v1 t T = v0 + (v1 - v0) * t / T :=
  if_neg (not_le_of_gt h)

theorem lerp_zero {T : Int} (hT : 0 < T) (v0 v1 : Int) : lerp v0 v1 0 T = v0 := by
  rw [lerp_of_lt hT, mul_zero, Int.zero_ediv, add_zero]

theorem ramp_of_le {t T : Int} (h : T ≤ t) (L : LutBits) (ty : RampType) (tg : Int) : ramp L ty tg t T = tg := by
  cases ty <;> exact if_pos h

theorem ramp_linear_of_lt {t T : Int} (h : t < T) (L : LutBits) (tg : Int) :
    ramp L .linear tg t T = tg * t / T := if_neg (not_le_of_gt h)

theorem ramp_sCurve_of_lt {t T : Int} (h : t < T) (L : LutBits) (tg : Int) :
    ramp L .sCurve tg t T = tg * (511 - interp L (u32 (0x40000000 + t * 2 ^ 31 / T))) / 1022 :=
  if_neg (not_le_of_gt h)

/-- R713 with R711 and R712 written out. -/
theorem ramp_eq (L : LutBits) (ty : RampType) (tg t T : Int) :
    ramp L ty tg t T =
      if T ≤ t then tg
      else if ty = .linear then tg * t / T
      else tg * (511 - interp L (u32 (0x40000000 + t * 2 ^ 31 / T))) / 1022 := by
  cases ty <;> rfl

/-- R401, R402: a quarter of a turn is the table's peak, with nothing to interpolate. -/
theorem interp_quarter (L : LutBits) : interp L 0x40000000 = 511 := by
  have hpeak : lut L (lutSize L / 4) = 511 := by
    rw [lut_eq, (lutSize_quarters L).1]
    decide
  have hindex : phaseIndex L 0x40000000 = lutSize L / 4 := by cases L <;> decide
  have hfrac : phaseFrac L 0x40000000 = 0 := by cases L <;> decide
  rw [interp_eq, hindex, hfrac, hpeak, floorDiv_eq_div]
  simp

/-- R711, R712: the soft start begins at no amplitude. -/
theorem ramp_zero {T : Int} (hT : 0 < T) (L : LutBits) (ty : RampType) (tg : Int) : ramp L ty tg 0 T = 0 := by
  cases ty with
  | linear => rw [ramp_linear_of_lt hT, mul_zero, Int.zero_ediv]
  | sCurve =>
    have hphase : u32 (0x40000000 + 0 * 2 ^ 31 / T) = 0x40000000 := by
      rw [zero_mul, Int.zero_ediv, add_zero]; rfl
    rw [ramp_sCurve_of_lt hT, hphase, interp_quarter, sub_self, mul_zero, Int.zero_ediv]

/-! ## The modulator (R720) -/

/-- R720 with its two factors written out. -/
theorem fda_of_ne_zero {r : Int} (hr : r ≠ 0) (a f tgt : Int) :
    fda r a f tgt =
      a * ((r * 65536 + (100 - r) * min (max (f * 65536 / tgt) 0) 65536) / 100) / 65536 := if_neg hr

/-- R720: the modulator does nothing where it is disabled, at 100 %, and from the target frequency on. -/
theorem fda_eq_self {r f tgt : Int} (htgt : 0 < tgt) (h : r = 0 ∨ r = 100 ∨ tgt ≤ f) (a : Int) :
    fda r a f tgt = a := by
  by_cases hr : r = 0
  · exact if_pos hr
  have hscale : (r * 65536 + (100 - r) * min (max (f * 65536 / tgt) 0) 65536) / 100 = 65536 := by
    rcases h with h | rfl | h
    · exact absurd h hr
    · omega
    · have hq : 65536 ≤ f * 65536 / tgt := (Int.le_ediv_iff_mul_le htgt).2 (by omega)
      rw [show min (max (f * 65536 / tgt) 0) 65536 = 65536 by omega]
      omega
  rw [fda_of_ne_zero hr, hscale, Int.mul_ediv_cancel _ (by decide)]

/-- Settles O26: the formulas of the three functions, their ends, and their bounds. -/
theorem rampsStayBetweenTheirEnds : Obligations.RampsStayBetweenTheirEnds := by
  refine ⟨fun v0 v1 t T ht _ => ?_, fun L ty tg t T htg ht _ => ?_, fun r a f tgt hr hr' ha htgt => ?_⟩
  · obtain ⟨hlo, hhi⟩ := lerp_mem (T := T) ht (min_le_left v0 v1) (le_max_left v0 v1) (min_le_right v0 v1)
      (le_max_right v0 v1)
    exact ⟨fun h => lerp_of_le h v0 v1, fun h => lerp_of_lt h v0 v1, fun h => lerp_zero h v0 v1, hlo, hhi⟩
  · obtain ⟨hlo, hhi⟩ := ramp_mem L ty T htg ht
    exact ⟨fun h => ramp_of_le h L ty tg, fun h => ramp_zero h L ty tg, fun h => ramp_linear_of_lt h L tg,
      fun h => ramp_sCurve_of_lt h L tg, hlo, hhi⟩
  · obtain ⟨hlo, hhi⟩ := fda_mem f tgt hr hr' ha
    exact ⟨fun h => fda_of_ne_zero h a f tgt, hlo, hhi, fun h => fda_eq_self htgt h a⟩

/-! ## What UPDATE leaves of an evaluation (R750 to R753, R760) -/

/-- R700 to R703: the state `u` differs from `s` only in the time booked and in what the evaluation of a motor state
and the runtime counters may write. -/
def EvaluatedFrom (s u : State) : Prop :=
  u = { s with
    stateEpoch := u.stateEpoch, sessionRt := u.sessionRt, totalRt := u.totalRt
    status := { s.status with
      motor := u.status.motor, swActive := u.status.swActive, ampReduced := u.status.ampReduced }
    latches := { s.latches with
      lastUpdate := s.timeMs, wdtFeed := s.timeMs, redEpoch := u.latches.redEpoch
      rtAcc := u.latches.rtAcc }
    misc := { s.misc with
      graceDone := s.misc.graceDone || decide (s.cfg.powerOnDelayMs.toNat ≤ s.timeMs.toNat) } }

/-- What UPDATE's claims say of the motor beside `UpdateLeaves` is the same in both states. -/
structure MotorKept (u t : State) : Prop where
  motor      : t.status.motor = u.status.motor
  stateEpoch : t.stateEpoch = u.stateEpoch
  swActive   : t.status.swActive = u.status.swActive
  ampReduced : t.status.ampReduced = u.status.ampReduced
  redEpoch   : t.latches.redEpoch = u.latches.redEpoch
  sessionRt  : t.sessionRt = u.sessionRt
  totalRt    : t.totalRt = u.totalRt
  rtAcc      : t.latches.rtAcc = u.latches.rtAcc

/-- Publication, the status bus and the relays leave what the evaluation made of the motor. -/
theorem publish_motorKept (d : Drive) (b : DdsBlock) (u : State) :
    MotorKept u (relayEval (writeStatusBus d (publish b u))) := by
  rcases publish_cases b u with ⟨-, e⟩ | ⟨-, -, e⟩ | ⟨-, -, e⟩ <;> rw [e] <;>
    exact ⟨rfl, rfl, rfl, rfl, rfl, rfl, rfl, rfl⟩

section
variable {s u : State} {d : Drive}

/-- UPDATE where the motor does not run leaves the drive and the motor the evaluation asks for. -/
theorem exec_update_leaves_of_not_running (hs : s.status.sysinit = true) (hm : s.status.motor ≠ .running)
    (he : evalState Config.lutBits (bookTime s) = (d, u)) (hu : EvaluatedFrom s u) :
    ∃ t, exec .update s = .next t ∧ UpdateLeaves s t d.f d.a d.en ∧ MotorKept u t :=
  ⟨_, exec_update_of_not_running hs hm he, updateLeaves_of_evaluated s u d hu, publish_motorKept d _ u⟩

/-- The same where the motor runs, of the evaluation after the runtime is counted. -/
theorem exec_update_leaves_of_running (hs : s.status.sysinit = true) (hm : s.status.motor = .running)
    (he : evalState Config.lutBits (countRuntime (s.elapsed s.latches.lastUpdate) (bookTime s)) = (d, u))
    (hu : EvaluatedFrom s u) :
    ∃ t, exec .update s = .next t ∧ UpdateLeaves s t d.f d.a d.en ∧ MotorKept u t :=
  ⟨_, exec_update_of_running hs hm he, updateLeaves_of_evaluated s u d hu, publish_motorKept d _ u⟩

end

/-! ## Standby and Stopped (R730, R731) -/

theorem evalState_of_rest (L : LutBits) {s : State} (h : s.status.motor = .standby ∨ s.status.motor = .stopped) :
    evalState L s = (⟨targetFreq s s.status.speedIdx, 0, false⟩, autoStandby s) :=
  h.elim (evalState_of_standby L) (evalState_of_stopped L)

/-- Settles O22: auto-standby's two cases. -/
theorem updateAtRest : Obligations.UpdateAtRest := by
  intro s hs hm
  have hne : s.status.motor ≠ .running := by rcases hm with h | h <;> rw [h] <;> decide
  have heval := evalState_of_rest Config.lutBits (s := bookTime s) hm
  rcases autoStandby_cases (bookTime s) with ⟨hdue, e⟩ | ⟨hnot, e⟩ <;> rw [e] at heval <;>
    obtain ⟨t, hexec, hleaves, hk⟩ := exec_update_leaves_of_not_running hs hne heval rfl
  · exact ⟨t, hexec, hleaves, fun _ => ⟨hk.motor, hk.stateEpoch⟩, fun h => absurd hdue h, hk.swActive,
      hk.ampReduced, hk.redEpoch, hk.sessionRt, hk.totalRt, hk.rtAcc⟩
  · exact ⟨t, hexec, hleaves, fun h => absurd h hnot, fun _ => ⟨hk.motor, hk.stateEpoch⟩, hk.swActive,
      hk.ampReduced, hk.redEpoch, hk.sessionRt, hk.totalRt, hk.rtAcc⟩

/-! ## Starting (R732 to R734) -/

/-- R732 with R710 written out. -/
theorem startingFreq_eq (p : SpeedProfile) (tgt t : Int) :
    let km : Int := p.kickMult.toNat
    let H : Int := p.kickHoldMs.toNat
    let R : Int := p.kickRampMs.toNat
    startingFreq p tgt t =
      if 1 < km ∧ t < H then tgt * km
      else if 1 < km ∧ t < H + R then tgt * km + (tgt - tgt * km) * (t - H) / R
      else tgt := by
  intro km H R
  by_cases hramp : 1 < km ∧ t < H + R
  · have hlerp := lerp_of_lt (t := t - H) (T := R) (by omega) (tgt * km) tgt
    rw [← hlerp]
    rfl
  · rw [if_neg hramp]
    unfold startingFreq
    dsimp only
    rw [if_neg hramp]

theorem startingDone_iff (p : SpeedProfile) (t : Int) :
    startingDone p t = true ↔
      (p.softStartMs.toNat : Int) ≤ t
        ∧ ((p.kickMult.toNat : Int) = 1 ∨ (p.kickHoldMs.toNat : Int) + p.kickRampMs.toNat ≤ t) :=
  decide_eq_true_iff

/-- R732, R733: the drive while Starting. -/
def startingDrive (s : State) : Drive :=
  let p := s.profiles.get s.misc.stSpeed
  let t : Int := s.elapsed s.stateEpoch
  let f := startingFreq p (s32 s.latches.stTgt) t
  ⟨f, fda (unsigned s.cfg.fdaPct)
    (ramp Config.lutBits s.cfg.rampType (unsigned s.latches.stAmp) t (unsigned p.softStartMs)) f
    (s32 s.latches.stTgt), true⟩

theorem evalState_of_starting_done {s : State} (hm : s.status.motor = .starting)
    (h : startingDone (s.profiles.get s.misc.stSpeed) (s.elapsed s.stateEpoch) = true) :
    evalState Config.lutBits s = (startingDrive s, enterRunning s) :=
  (evalState_of_starting _ hm).trans (congrArg (Prod.mk (startingDrive s)) (if_pos h))

theorem evalState_of_starting_not_done {s : State} (hm : s.status.motor = .starting)
    (h : ¬startingDone (s.profiles.get s.misc.stSpeed) (s.elapsed s.stateEpoch) = true) :
    evalState Config.lutBits s = (startingDrive s, s) :=
  (evalState_of_starting _ hm).trans (congrArg (Prod.mk (startingDrive s)) (if_neg h))

/-- Settles O23: the drive's formulas, then the start complete or not. -/
theorem updateWhileStarting : Obligations.UpdateWhileStarting := by
  intro s hs hm P t0 km H R tgt f T a
  have hne : s.status.motor ≠ .running := by rw [hm]; decide
  have hf : startingFreq P tgt t0 = f := startingFreq_eq P tgt t0
  have hdrive : startingDrive (bookTime s) = ⟨f, a, true⟩ := by
    have ha : fda s.cfg.fdaPct.toNat (ramp Config.lutBits s.cfg.rampType s.latches.stAmp.toNat t0 T) f tgt = a := by
      rw [ramp_eq]
    rw [← ha, ← hf]
    rfl
  have hiff : startingDone P t0 = true ↔ T ≤ t0 ∧ (km = 1 ∨ H + R ≤ t0) := startingDone_iff P t0
  by_cases hdone : T ≤ t0 ∧ (km = 1 ∨ H + R ≤ t0)
  · have heval := evalState_of_starting_done (s := bookTime s) hm (hiff.2 hdone)
    rw [hdrive] at heval
    obtain ⟨t, hexec, hleaves, hk⟩ := exec_update_leaves_of_not_running hs hne heval rfl
    exact ⟨t, hexec, hleaves, fun _ => ⟨hk.motor, hk.stateEpoch, hk.redEpoch, hk.ampReduced⟩,
      fun h => absurd hdone h, hk.swActive, hk.sessionRt, hk.totalRt, hk.rtAcc⟩
  · have heval := evalState_of_starting_not_done (s := bookTime s) hm fun h => hdone (hiff.1 h)
    rw [hdrive] at heval
    obtain ⟨t, hexec, hleaves, hk⟩ := exec_update_leaves_of_not_running hs hne heval rfl
    exact ⟨t, hexec, hleaves, fun h => absurd h hdone,
      fun _ => ⟨hk.motor.trans hm, hk.stateEpoch, hk.redEpoch, hk.ampReduced⟩,
      hk.swActive, hk.sessionRt, hk.totalRt, hk.rtAcc⟩

/-! ## Running (R703, R735, R736) -/

/-- R735 with R710 written out: the frequency, and that the ramp goes on until its time is over. -/
theorem runningFreq_eq (tgt : Int) (s : State) :
    let ts : Int := s.elapsed s.latches.swEpoch
    let D : Int := s.cfg.swRampMs.toNat
    runningFreq tgt s =
      (if s.status.swActive = true then
          if D ≤ ts then s32 s.latches.swTo
          else s32 s.latches.swFrom + (s32 s.latches.swTo - s32 s.latches.swFrom) * ts / D
        else tgt,
       s.status.swActive && decide (ts < D)) := by
  intro ts D
  unfold runningFreq
  cases s.status.swActive with
  | false => rfl
  | true =>
    by_cases h : D ≤ ts
    · rw [if_pos rfl, if_pos rfl, decide_eq_false (not_lt_of_ge h)]
      exact (if_pos h).trans (congrArg (·, false) (if_pos h).symm)
    · rw [if_pos rfl, if_pos rfl, decide_eq_true (lt_of_not_ge h), ← lerp_of_lt (lt_of_not_ge h)]
      exact (if_neg h).trans (congrArg (·, true) (if_neg h).symm)

/-- R735, R736: the evaluation in Running, for the frequency it drives and whether its ramp goes on. -/
theorem evalState_of_runningFreq {s : State} (hm : s.status.motor = .running) {f : Int} {sw : Bool}
    (h : runningFreq (targetFreq s s.status.speedIdx) s = (f, sw)) :
    evalState Config.lutBits s =
      (⟨f, fda (unsigned s.cfg.fdaPct)
          (if reductionLatched s = true then
              pctOf (targetAmp s) (unsigned (s.profiles.get s.status.speedIdx).redPct)
            else targetAmp s)
          f (targetFreq s s.status.speedIdx), true⟩,
        { s with status := { s.status with swActive := sw, ampReduced := reductionLatched s } }) := by
  rw [evalState_of_running _ hm, evalRunning, h]

/-- R703: what stays in the accumulator. -/
theorem toNat_rtAcc_countRuntime (dt : Nat) (s : State) :
    (countRuntime dt s).latches.rtAcc.toNat = (s.latches.rtAcc.toNat + dt) % 1000 := by
  rw [countRuntime, BitVec.toNat_ofNat, Config.runtimeQuantumMs]
  omega

/-- Settles O24: the frequency of `runningFreq_eq`, evaluated after the runtime is counted. -/
theorem updateWhileRunning : Obligations.UpdateWhileRunning := by
  intro s hs hm P tgt ts D f reduced tamp a ms
  have hf : runningFreq tgt s = (f, s.status.swActive && decide (ts < D)) := runningFreq_eq tgt s
  have heval := evalState_of_runningFreq
    (s := countRuntime (s.elapsed s.latches.lastUpdate) (bookTime s)) hm hf
  obtain ⟨t, hexec, hleaves, hk⟩ := exec_update_leaves_of_running hs hm heval rfl
  refine ⟨t, hexec, hleaves, hk.motor.trans hm, hk.stateEpoch, hk.swActive, hk.ampReduced, hk.redEpoch,
    hk.sessionRt, hk.totalRt, ?_⟩
  rw [hk.rtAcc]
  exact toNat_rtAcc_countRuntime (s.elapsed s.latches.lastUpdate) (bookTime s)

/-! ## Stopping (R737 to R740) -/

theorem evalState_of_stopping_over {s : State} (hm : s.status.motor = .stopping)
    (h : (s.cfg.brakeMs.toNat : Int) ≤ s.elapsed s.stateEpoch) :
    evalState Config.lutBits s = (⟨|s32 s.latches.stopTgt|, 0, false⟩, s.enter .stopped) := by
  rw [evalState_of_stopping _ hm, ← Int.natCast_natAbs]
  exact if_pos h

theorem evalState_of_stopping_braking {s : State} (hm : s.status.motor = .stopping)
    (h : (s.elapsed s.stateEpoch : Int) < s.cfg.brakeMs.toNat) :
    let d := brakeDrive s (s.elapsed s.stateEpoch) s.cfg.brakeMs.toNat
    evalState Config.lutBits s = (⟨d.1, d.2, true⟩, s) :=
  (evalState_of_stopping _ hm).trans (if_neg (not_le_of_gt h))

/-- R737 to R739 with R710 written out: the three brake modes while the stop lasts. -/
theorem brakeDrive_eq (s : State) {t T : Int} (h : t < T) :
    let a : Int := s.latches.stopA0.toNat + (0 - s.latches.stopA0.toNat) * t / T
    brakeDrive s t T = match s.cfg.brakeMode with
      | .off => (s32 s.latches.stopF0, a)
      | .ramp => (s.cfg.brakeStartMhz.toNat
          + ((s.cfg.brakeStopMhz.toNat : Int) - s.cfg.brakeStartMhz.toNat) * t / T, a)
      | .pulse => (-s32 s.latches.stopTgt,
          if t / s.cfg.pulseGapMs.toNat % 2 = 0 then (s.latches.stopTamp.toNat : Int) else 0) := by
  unfold brakeDrive
  cases s.cfg.brakeMode with
  | off | ramp => simp only [lerp_of_lt h]
  | pulse => rfl

/-- Settles O25: the stop is over, or it brakes in one of the three modes. -/
theorem updateWhileStopping : Obligations.UpdateWhileStopping := by
  intro s hs hm t0 T a0
  have hne : s.status.motor ≠ .running := by rw [hm]; decide
  rcases le_or_gt T t0 with hover | hbrake
  · have heval := evalState_of_stopping_over (s := bookTime s) hm hover
    obtain ⟨t, hexec, hleaves, hk⟩ := exec_update_leaves_of_not_running hs hne heval rfl
    exact ⟨t, hexec, fun _ => ⟨hleaves, hk.motor, hk.stateEpoch⟩, fun h => absurd hover (not_le_of_gt h),
      hk.swActive, hk.ampReduced, hk.redEpoch, hk.sessionRt, hk.totalRt, hk.rtAcc⟩
  · have heval := evalState_of_stopping_braking (s := bookTime s) hm hbrake
    obtain ⟨t, hexec, hleaves, hk⟩ := exec_update_leaves_of_not_running hs hne heval rfl
    have hmode : UpdateLeaves s t (brakeDrive s t0 T).1 (brakeDrive s t0 T).2 true := hleaves
    rw [brakeDrive_eq s hbrake] at hmode
    refine ⟨t, hexec, fun h => absurd h (not_le_of_gt hbrake), fun _ => ⟨hk.motor.trans hm, hk.stateEpoch,
      fun h => ?_, fun h => ?_, fun h => ?_⟩, hk.swActive, hk.ampReduced, hk.redEpoch, hk.sessionRt,
      hk.totalRt, hk.rtAcc⟩ <;>
      rw [h] at hmode <;> exact hmode

/-! ## What RELAY reads (R107, R761, R762) -/

/-- R107: a legal read of RELAY. -/
theorem memRead_relay (s : State) : memRead 0x018 4 s = (relayWord s, s) := rfl

/-- R107: every bit of RELAY is the quotient at its place, modulo 2, and none stands at bit 13 or above. -/
theorem relayWord_bits (s : State) :
    let n := (relayWord s).toNat
    let pin := pinLevel s.cfg.activeHigh
    (∀ c, c < 4 → n / 2 ^ c % 2 = (relayEngaged s c).toNat
        ∧ n / 2 ^ (8 + c) % 2 = (pin (relayEngaged s c)).toNat)
      ∧ n / 2 ^ 4 % 2 = (standbyAsserted s).toNat ∧ n / 2 ^ 12 % 2 = (pin (standbyAsserted s)).toNat
      ∧ (∀ i, 5 ≤ i ∧ i ≤ 7 → n / 2 ^ i % 2 = false.toNat) ∧ n < 2 ^ 13 := by
  have h0 := (relayEngaged s 0).toNat_le
  have h1 := (relayEngaged s 1).toNat_le
  have h2 := (relayEngaged s 2).toNat_le
  have h3 := (relayEngaged s 3).toNat_le
  have h4 := (standbyAsserted s).toNat_le
  have h8 := (pinLevel s.cfg.activeHigh (relayEngaged s 0)).toNat_le
  have h9 := (pinLevel s.cfg.activeHigh (relayEngaged s 1)).toNat_le
  have h10 := (pinLevel s.cfg.activeHigh (relayEngaged s 2)).toNat_le
  have h11 := (pinLevel s.cfg.activeHigh (relayEngaged s 3)).toNat_le
  have h12 := (pinLevel s.cfg.activeHigh (standbyAsserted s)).toNat_le
  simp only [relayWord, BitVec.toNat_ofNat, bit, field, Bool.toNat_false]
  refine ⟨fun c hc => ?_, by omega, by omega, fun i hi => ?_, by omega⟩
  · interval_cases c <;> constructor <;> omega
  · obtain ⟨hlo, hhi⟩ := hi
    interval_cases i <;> omega

theorem pinLevel_decide (activeHigh : Bool) (p : Prop) [Decidable p] :
    pinLevel activeHigh (decide p) = if p then activeHigh else !activeHigh := by
  by_cases h : p <;> simp [pinLevel, h]

theorem standbyAsserted_eq (s : State) : standbyAsserted s = decide (s.status.motor ≠ .standby) := by
  unfold standbyAsserted
  cases s.status.motor <;> rfl

/-- Settles O30: a read of RELAY answers the sum of its bits, and each stands at its place. -/
theorem relayReadsTheRelayLevels : Obligations.RelayReadsTheRelayLevels := by
  intro s
  obtain ⟨hmute, hstandby, hpin, hgap, hlt⟩ := relayWord_bits s
  refine ⟨relayWord s, memRead_relay s, fun c hc => ?_, ?_, ?_, fun i hi => ?_⟩
  · obtain ⟨hengaged, hlevel⟩ := hmute c hc
    exact ⟨getLsbD_of_div_mod hengaged, (getLsbD_of_div_mod hlevel).trans (pinLevel_decide _ _)⟩
  · exact (getLsbD_of_div_mod hstandby).trans (standbyAsserted_eq s)
  · rw [getLsbD_of_div_mod hpin, standbyAsserted_eq, pinLevel_decide]
  · rcases hi with hi | hi
    · exact getLsbD_of_div_mod (hgap i hi)
    · exact getLsbD_of_toNat_lt hlt hi

end Sys2Proof.Machine
end

section
/-!
PROOFS. The configuration (spec/44_register_access.md R801 to R830): which steps write it, that each keeps it
legal, and the targets it bounds.
-/

namespace Sys2Proof.Machine

open Sys2Proof

/-! ## Who writes the configuration (R206, R622, R623, R801) -/

/-- Both states hold the same configuration. -/
structure ConfigKept (s t : State) : Prop where
  cfg      : t.cfg = s.cfg
  profiles : t.profiles = s.profiles

/-- R160, R171: every configuration register holds its default. -/
structure ConfigDefault (t : State) : Prop where
  cfg      : t.cfg = .default
  profiles : t.profiles = .default

theorem ConfigKept.trans {s t u : State} (h : ConfigKept s t) (g : ConfigKept t u) : ConfigKept s u :=
  ⟨g.cfg.trans h.cfg, g.profiles.trans h.profiles⟩

theorem ConfigKept.configLegal {s t : State} (e : ConfigKept s t) (h : ConfigLegal s) : ConfigLegal t := by
  rw [ConfigLegal, e.cfg, e.profiles]
  exact h

theorem ConfigDefault.configLegal {t : State} (e : ConfigDefault t) : ConfigLegal t := by
  rw [ConfigLegal, e.cfg, e.profiles]
  exact configLegal_default

theorem publish_configKept (b : DdsBlock) (s : State) : ConfigKept s (publish b s) := by
  rcases publish_cases b s with ⟨-, e⟩ | ⟨-, -, e⟩ | ⟨-, -, e⟩ <;> rw [e] <;> exact ⟨rfl, rfl⟩

theorem evalState_configKept (L : LutBits) (s : State) : ConfigKept s (evalState L s).2 := by
  rcases evalState_cases L s with e | ⟨-, e⟩ | ⟨-, e⟩ | ⟨-, _, _, e⟩ | ⟨-, e⟩ <;> rw [e] <;>
    exact ⟨rfl, rfl⟩

/-- R700: UPDATE reads the configuration only. -/
theorem updateBody_configKept (L : LutBits) (s : State) : ConfigKept s (updateBody L s) := by
  have htail {u : State} (hu : ConfigKept s u) : ConfigKept s (writeStatusBus (evalState L u).1
      (publish (buildBlock (evalState L u).2 (evalState L u).1 (profileInUse (evalState L u).2))
        (evalState L u).2)) :=
    (hu.trans (evalState_configKept L u)).trans { publish_configKept _ _ with }
  by_cases hm : s.status.motor = .running
  · rw [updateBody_of_running L hm]
    exact htail ⟨rfl, rfl⟩
  · rw [updateBody_of_not_running L hm]
    exact htail ⟨rfl, rfl⟩

/-- R622, R623: of the commands, only LOAD_DEFAULTS and a SettingsCorrupt report write the configuration, and they
load the defaults. -/
theorem exec_config {i : Instr} {s t : State} (h : exec i s = .next t) :
    ConfigKept s t ∨ ((i = .loadDefaults ∨ ∃ c, i = .reportError 2 c) ∧ ConfigDefault t) := by
  rcases exec_cases h with e | ⟨-, -, e⟩ | ⟨-, -, e⟩ | ⟨-, -, e⟩ | ⟨-, -, e⟩ | ⟨-, -, e⟩ | ⟨-, -, e⟩
    | ⟨k, -, -, e⟩ | ⟨-, -, e⟩ | ⟨p, -, -, -, -, e⟩ | ⟨k, c, hi, e⟩ | ⟨hi, e⟩ <;> subst e
  · exact .inl ⟨rfl, rfl⟩
  · rcases initBody_cases s with ⟨-, e⟩ | ⟨-, -, e⟩ | ⟨-, -, e⟩ <;> rw [e] <;> exact .inl ⟨rfl, rfl⟩
  · exact .inl { updateBody_configKept _ s with }
  · rcases startBody_cases s with ⟨-, e⟩ | ⟨-, e⟩ | ⟨-, e⟩ <;> rw [e] <;> exact .inl ⟨rfl, rfl⟩
  · rcases stopBody_cases s with ⟨-, e⟩ | ⟨-, e⟩ <;> rw [e] <;> exact .inl ⟨rfl, rfl⟩
  · rcases toggleStandbyBody_cases s with ⟨-, e⟩ | ⟨-, e⟩ <;> rw [e] <;> exact .inl ⟨rfl, rfl⟩
  · rcases wakeBody_cases s with ⟨-, e⟩ | ⟨-, e⟩ <;> rw [e] <;> exact .inl ⟨rfl, rfl⟩
  · rcases changeSpeed_cases k s with ⟨-, e⟩ | ⟨-, -, -, e⟩ | ⟨-, -, e⟩ <;> rw [e] <;> exact .inl ⟨rfl, rfl⟩
  · exact .inl ⟨rfl, rfl⟩
  · exact .inl ⟨rfl, rfl⟩
  · rcases reportErrorBody_cases k c s with ⟨-, e⟩ | ⟨kind, rfl, ⟨-, e⟩ | ⟨rfl, e⟩⟩ <;> rw [e]
    · exact .inl ⟨rfl, rfl⟩
    · exact .inl ⟨rfl, rfl⟩
    · exact .inr ⟨.inr ⟨c, hi⟩, rfl, rfl⟩
  · exact .inr ⟨.inl hi, rfl, rfl⟩

/-- R801, R916: an agent's step keeps the configuration, loads the defaults by a command, or is a register write. -/
theorem agentStep_config {a : AgentStep} {s t : State} (h : agentStep a s = .next t) :
    ConfigKept s t ∨ ConfigDefault t ∨ ∃ r v, t = writeReg r v s := by
  rcases agentStep_cases h with ⟨off, n, -, e⟩ | ⟨_, _, _, -, -, e⟩ | ⟨_, i, -, -, hexec⟩ | ⟨_, _, -, -, e⟩
    | ⟨_, _, v, r, -, -, -, e⟩ | ⟨-, -, e⟩ | ⟨-, -, e⟩ | ⟨k, -, -, e⟩ | ⟨-, e⟩
  case inr.inr.inl => exact (exec_config hexec).imp_right fun hdefault => .inl hdefault.2
  case inr.inr.inr.inr.inl => exact .inr (.inr ⟨r, v, e⟩)
  all_goals subst e; left
  · rcases hostRead_eq off n s with e | e <;> rw [e] <;> exact ⟨rfl, rfl⟩
  · exact ⟨rfl, rfl⟩
  · exact ⟨rfl, rfl⟩
  · exact refill_induct _ _ s (ConfigKept s) fun _ _ _ _ _ _ _ _ _ _ => ⟨rfl, rfl⟩
  · rcases tick_cases s with ⟨-, e⟩ | ⟨-, e⟩ <;> rw [e] <;> exact ⟨rfl, rfl⟩
  · exact ⟨rfl, rfl⟩
  · exact ⟨rfl, rfl⟩

/-- Every agent's step keeps the configuration legal: a register write legalises what it stores. -/
theorem configLegal_agentStep {a : AgentStep} {s t : State} (h : ConfigLegal s)
    (hstep : agentStep a s = .next t) : ConfigLegal t := by
  rcases agentStep_config hstep with e | e | ⟨r, v, rfl⟩
  · exact e.configLegal h
  · exact e.configLegal
  · exact configLegal_writeReg r v h

/-- Settles O55: a step is the watchdog's reset, which loads the defaults, or one agent's step. -/
theorem configurationStaysLegal : Obligations.ConfigurationStaysLegal := by
  intro s t hs hstep
  rcases step_cases hstep with ⟨-, rfl⟩ | ⟨-, a, sch, n, hagent⟩
  · exact configLegal_default
  · exact configLegal_agentStep (s := { s with schedule := sch, choices := n }) hs hagent

/-! ## The targets on legal configuration (R602 to R604, R830) -/

theorem effMin_le_effMax (p : SpeedProfile) : effMin p ≤ effMax p := min_le_max

/-- R830: the effective nominal frequency lies between the effective bounds, whatever their order in the
registers. -/
theorem effNominal_mem (p : SpeedProfile) : effMin p ≤ effNominal p ∧ effNominal p ≤ effMax p :=
  clamp_mem _ _ _ (effMin_le_effMax p)

theorem targetFreq_mem_eff (s : State) (k : Speed) :
    effMin (s.profiles.get k) ≤ targetFreq s k ∧ targetFreq s k ≤ effMax (s.profiles.get k) :=
  clamp_mem _ _ _ (effMin_le_effMax _)

/-- R604: the effective pitch lies within the pitch range. -/
theorem natAbs_effPitch_le (s : State) : (effPitch s).natAbs ≤ 100 * s.cfg.pitchRange.toNat := by
  obtain ⟨hrange, hrange'⟩ := unsigned_mem (le_refl s.cfg.pitchRange.toNat)
  have hpitch := clamp_mem (s32 s.pitchRaw) (-(100 * unsigned s.cfg.pitchRange))
    (100 * unsigned s.cfg.pitchRange) (by omega)
  rw [← effPitch] at hpitch
  omega

/-- R602: without pitch the target is the effective nominal frequency. -/
theorem targetFreq_of_effPitch_zero {s : State} (h : effPitch s = 0) (k : Speed) :
    targetFreq s k = effNominal (s.profiles.get k) := by
  obtain ⟨hlo, hhi⟩ := effNominal_mem (s.profiles.get k)
  rw [targetFreq_eq, h, mul_zero, Int.zero_ediv, add_zero, clamp_of_mem hlo hhi]

/-- Settles O28: the ordering holds by the clamps alone, and the amplitude's bound by the legal MAX_AMP_PCT. -/
theorem targetsStayInTheirBounds : Obligations.TargetsStayInTheirBounds := by
  intro s k h
  obtain ⟨hnom, hnom'⟩ := effNominal_mem (s.profiles.get k)
  obtain ⟨hfreq, hfreq'⟩ := targetFreq_mem_eff s k
  obtain ⟨hamp, hamp'⟩ := targetAmp_mem h
  exact ⟨hnom, hnom', hfreq, hfreq', natAbs_effPitch_le s, hamp, hamp',
    fun hpitch => targetFreq_of_effPitch_zero hpitch k⟩

end Sys2Proof.Machine
end

section
/-!
PROOFS. Writes to the register space (spec/44_register_access.md R800 to R814): the codes a configuration write
stores, what a write to each configuration register is read back as, and the writes that are ignored.
-/

namespace Sys2Proof.Machine

open Sys2Proof

/-! ## The codes a configuration write stores (R810, R811, R813) -/

/-- R813: the code stored for a two-bit field, whose value 3 is stored as 0. -/
def storedCode (c : Nat) : Nat := if c % 4 = 3 then 0 else c % 4

theorem code_legalSpeed_mod (c : Nat) : (legalSpeed (c % 4)).code = storedCode c := by
  have hc : c % 4 < 4 := Nat.mod_lt _ (by decide)
  rw [storedCode]
  interval_cases c % 4 <;> rfl

theorem code_legalBrakeMode (v : Word) : (legalBrakeMode v).code = storedCode v.toNat := by
  have hc : v.toNat % 4 < 4 := Nat.mod_lt _ (by decide)
  rw [legalBrakeMode, storedCode, toNat_extractLsb'_eq, pow_zero, Nat.div_one]
  interval_cases v.toNat % 4 <;> rfl

theorem code_legalKind (v : Word) : (legalKind v).code = storedCode v.toNat := by
  have hc : v.toNat % 4 < 4 := Nat.mod_lt _ (by decide)
  rw [legalKind, storedCode, toNat_extractLsb'_eq, pow_zero, Nat.div_one]
  interval_cases v.toNat % 4 <;> rfl

theorem firpCode_legalFirp (v : Word) : firpCode (legalFirp v) = storedCode (v.toNat / 16) := by
  have hc : v.toNat / 16 % 4 < 4 := Nat.mod_lt _ (by decide)
  rw [legalFirp, storedCode, toNat_extractLsb'_eq]
  interval_cases v.toNat / 16 % 4 <;> rfl

/-- R813: all four codes of BOOT_SPEED are legal. -/
theorem code_legalBootSpeed (v : Word) : (legalBootSpeed v).code = v.toNat % 4 := by
  have hc : v.toNat % 4 < 4 := Nat.mod_lt _ (by decide)
  rw [legalBootSpeed, toNat_extractLsb'_eq, pow_zero, Nat.div_one]
  interval_cases v.toNat % 4 <;> rfl

theorem code_legalRampType (v : Word) : (legalRampType v).code = (v.getLsbD 0).toNat := by
  rw [legalRampType]
  cases v.getLsbD 0 <;> rfl

/-- Bit `i` of a word, as a number. -/
theorem toNat_getLsbD (w : Word) (i : Nat) : (w.getLsbD i).toNat = w.toNat / 2 ^ i % 2 :=
  Nat.toNat_testBit _ _

/-- The low `n` bits of a word under a mask of ones. -/
theorem and_ones_eq_ofNat (v : Word) {n : Nat} (hn : n ≤ 32) :
    v &&& BitVec.ofNat 32 (2 ^ n - 1) = BitVec.ofNat 32 (v.toNat % 2 ^ n) := by
  have hpow : 2 ^ n ≤ 2 ^ 32 := Nat.pow_le_pow_right (by decide) hn
  have hlt : v.toNat % 2 ^ n < 2 ^ n := Nat.mod_lt _ (Nat.two_pow_pos n)
  apply BitVec.eq_of_toNat_eq
  rw [BitVec.toNat_and, BitVec.toNat_ofNat, BitVec.toNat_ofNat, Nat.mod_eq_of_lt (hlt.trans_le hpow),
    Nat.mod_eq_of_lt (a := 2 ^ n - 1) (by omega), Nat.and_two_pow_sub_one_eq_mod]

/-! ## What a coded register reads after a write (R810 to R814) -/

theorem readGlobal_writeGlobal_rampType (v : Word) (c : GlobalConfig) :
    readGlobal .rampType (writeGlobal .rampType v c) = v &&& 1 := by
  rw [show v &&& 1 = _ from and_ones_eq_ofNat v (n := 1) (by decide)]
  simp only [readGlobal, writeGlobal, field_eq_mul, code_legalRampType, toNat_getLsbD]
  congr 1
  omega

theorem readGlobal_writeGlobal_smoothSw (v : Word) (c : GlobalConfig) :
    readGlobal .smoothSw (writeGlobal .smoothSw v c) = v &&& 1 := by
  rw [readGlobal_smoothSw, show v &&& 1 = _ from and_ones_eq_ofNat v (n := 1) (by decide)]
  simp only [writeGlobal, toNat_getLsbD, pow_zero, Nat.div_one, pow_one]

theorem readGlobal_writeGlobal_brakeMode (v : Word) (c : GlobalConfig) :
    readGlobal .brakeMode (writeGlobal .brakeMode v c) = BitVec.ofNat 32 (storedCode v.toNat) := by
  simp only [readGlobal, writeGlobal, field_eq_mul, code_legalBrakeMode, pow_zero, one_mul]

theorem readGlobal_writeGlobal_relayCfg (v : Word) (c : GlobalConfig) :
    readGlobal .relayCfg (writeGlobal .relayCfg v c) = v &&& 7 := by
  rw [readGlobal_relayCfg, show v &&& 7 = _ from and_ones_eq_ofNat v (n := 3) (by decide)]
  simp only [writeGlobal, toNat_getLsbD]
  congr 1
  omega

theorem readGlobal_writeGlobal_bootCfg (v : Word) (c : GlobalConfig) :
    readGlobal .bootCfg (writeGlobal .bootCfg v c)
      = BitVec.ofNat 32 (v.toNat % 32 + 256 * storedCode (v.toNat / 256)) := by
  rw [readGlobal_bootCfg]
  simp only [writeGlobal, toNat_getLsbD, ← Speed.code_eq_speedIndex, toNat_extractLsb'_eq,
    code_legalBootSpeed, Nat.reducePow, code_legalSpeed_mod]
  congr 1
  omega

theorem readGlobal_writeGlobal_pitchRange (v : Word) (c : GlobalConfig) :
    readGlobal .pitchRange (writeGlobal .pitchRange v c)
      = BitVec.ofNat 32 (10 * (min (max v.toNat 10) 50 / 10)) := by
  simp only [readGlobal, writeGlobal, legalPitchRange, toNat_clampu v 10 50 (by decide)]

theorem readProfile_writeProfile_filter (v : Word) (p : SpeedProfile) :
    readProfile .filter (writeProfile .filter v p)
      = BitVec.ofNat 32 (storedCode v.toNat + 16 * storedCode (v.toNat / 16)) := by
  rw [readProfile_filter]
  simp only [writeProfile, code_legalKind, firpCode_legalFirp]
  rfl

/-! ## Writes that are read back (R800, R801) -/

/-- R801, R800: what a legal write to a configuration register is read back as, at the register's offset. -/
theorem readsBack_of_target {off : Nat} {r : Reg} {s : State} {v w : Word}
    (htarget : readTarget off 4 = some r) (hr : IsConfigReg r) (hw : readReg r (writeReg r v s) = w) :
    ReadsBack s off v w :=
  ⟨writeReg r v s, (memWrite_config htarget hr v s).1, memRead_of_target htarget hw⟩

theorem readsBack_global {off : Nat} (g : GlobalReg) {s : State} {v w : Word}
    (htarget : readTarget off 4 = some (.globalCfg g))
    (hw : readGlobal g (writeGlobal g v s.cfg) = w) : ReadsBack s off v w :=
  readsBack_of_target htarget (.inl ⟨g, rfl⟩) hw

theorem readsBack_profile {off : Nat} {k : Speed} (f : ProfileReg) {s : State} {v w : Word}
    (htarget : readTarget off 4 = some (.profile k f))
    (hw : readProfile f (writeProfile f v (s.profiles.get k)) = w) : ReadsBack s off v w :=
  readsBack_of_target htarget (.inr ⟨k, f, rfl⟩)
    (by rw [readReg, writeReg, Profiles.get_set, if_pos rfl, hw])

/-- Settles O44: a clamped register reads the clamp it stores; the codes and bits are those of the lemmas above. -/
theorem globalWritesReadBackLegal : Obligations.GlobalWritesReadBackLegal := by
  intro s v clamped code
  exact ⟨readsBack_global .phaseMode rfl rfl, readsBack_global .maxAmpPct rfl rfl,
    readsBack_global .rampType rfl (readGlobal_writeGlobal_rampType v _),
    readsBack_global .fdaPct rfl rfl,
    readsBack_global .smoothSw rfl (readGlobal_writeGlobal_smoothSw v _),
    readsBack_global .swRampMs rfl rfl,
    readsBack_global .brakeMode rfl (readGlobal_writeGlobal_brakeMode v _),
    readsBack_global .brakeMs rfl rfl, readsBack_global .pulseGapMs rfl rfl,
    readsBack_global .brakeStartMhz rfl rfl, readsBack_global .brakeStopMhz rfl rfl,
    readsBack_global .relayCfg rfl (readGlobal_writeGlobal_relayCfg v _),
    readsBack_global .powerOnDelayMs rfl rfl, readsBack_global .autoStandbyMin rfl rfl,
    readsBack_global .bootCfg rfl (readGlobal_writeGlobal_bootCfg v _),
    readsBack_global .pitchRange rfl (readGlobal_writeGlobal_pitchRange v _),
    readsBack_global .errDispMs rfl rfl⟩

/-- Settles O45: the three profiles differ in the offset of their first register alone. -/
theorem profileWritesReadBackLegal : Obligations.ProfileWritesReadBackLegal := by
  intro s v base hbase clamped code wrapped
  obtain ⟨k, hk⟩ : ∃ k, ∀ i : Fin 15, readTarget (base + 4 * i.val) 4 = some (.profile k profileRegs[i]) := by
    rcases hbase with rfl | rfl | rfl
    · exact ⟨.rpm33, by decide⟩
    · exact ⟨.rpm45, by decide⟩
    · exact ⟨.rpm78, by decide⟩
  exact ⟨readsBack_profile .nominalMhz (hk 0) rfl, readsBack_profile .minMhz (hk 1) rfl,
    readsBack_profile .maxMhz (hk 2) rfl, readsBack_profile .phase0Cdeg (hk 3) rfl,
    readsBack_profile .phase1Cdeg (hk 4) rfl, readsBack_profile .phase2Cdeg (hk 5) rfl,
    readsBack_profile .phase3Cdeg (hk 6) rfl, readsBack_profile .softStartMs (hk 7) rfl,
    readsBack_profile .kickMult (hk 8) rfl, readsBack_profile .kickHoldMs (hk 9) rfl,
    readsBack_profile .kickRampMs (hk 10) rfl, readsBack_profile .redPct (hk 11) rfl,
    readsBack_profile .redDelayMs (hk 12) rfl,
    readsBack_profile .filter (hk 13) (readProfile_writeProfile_filter v _),
    readsBack_profile .alphaQ16 (hk 14) rfl⟩

/-! ## Writes that are ignored (R802) -/

/-- R801: the registers a write has an effect on: CMD, TOTAL_RT and the configuration. -/
def Reg.writable : Reg → Bool
  | .cmd | .totalRt | .globalCfg _ | .profile _ _ => true
  | _ => false

/-- R802: a write to any other register changes nothing. -/
theorem writeReg_of_not_writable {r : Reg} (h : r.writable = false) (v : Word) (s : State) :
    writeReg r v s = s := by
  rcases writeReg_cases r v s with ⟨rfl, -⟩ | ⟨_, rfl, -⟩ | ⟨_, _, rfl, -⟩ | e
  · cases h
  · cases h
  · cases h
  · exact e

/-- R101 to R118: of the registers below 0x080, only CMD and TOTAL_RT are writable. -/
theorem writable_coreRegs : ∀ i : Fin 32, i ≠ 1 → i ≠ 8 → coreRegs[i].writable = false := by decide

/-- R204: outside the configuration, only CMD at 0x004 and TOTAL_RT at 0x020 are writable. -/
theorem not_writable_of_regAt {off : Nat} {r : Reg} (halign : off % 4 = 0) (hcmd : off ≠ 0x004)
    (htotal : off ≠ 0x020) (hrange : off < 0x200 ∨ 0x1000 ≤ off) (h : regAt off = some r) :
    r.writable = false := by
  by_cases hcore : off < 0x080
  · rw [regAt, if_pos hcore] at h
    obtain ⟨hlt, rfl⟩ := List.getElem?_eq_some_iff.1 h
    exact writable_coreRegs ⟨off / 4, hlt⟩ (Fin.ne_of_val_ne (show off / 4 ≠ 1 by omega))
      (Fin.ne_of_val_ne (show off / 4 ≠ 8 by omega))
  rcases hrange with hlow | hhigh
  · simp only [regAt, if_neg hcore, if_pos hlow] at h
    split_ifs at h <;> cases h <;> rfl
  · simp (disch := omega) only [regAt, if_neg] at h
    split at h <;> cases h
    rfl

/-- Settles O49: a legal write outside CMD, TOTAL_RT and the configuration reaches a register that is not
writable. -/
theorem readOnlyWritesAreIgnored : Obligations.ReadOnlyWritesAreIgnored := by
  intro off v s halign hle hres hcmd htotal hrange
  obtain ⟨r, htarget, hreg⟩ := readTarget_of_mapped halign hle hres
  have hro := not_writable_of_regAt halign hcmd htotal hrange hreg
  rcases memWrite_cases off 4 v s with ⟨hnone, -⟩ | ⟨hoff, -, -⟩ | ⟨r', htarget', -, e⟩
  · cases htarget.symm.trans hnone
  · exact absurd hoff hcmd
  · cases htarget.symm.trans htarget'
    rw [e, writeReg_of_not_writable hro]

end Sys2Proof.Machine
end

section
/-!
PROOFS. Errors and ownership (spec/60_exceptions.md R908, R916, R931): the sticky bits across every step, the
watchdog's reset where it is due, and what each agent's step leaves to the others.
-/

namespace Sys2Proof.Machine

open Sys2Proof

/-! ## The watchdog's reset (R931, R1001) -/

theorem step_of_resetDue {s : State} (h : ResetDue s) : step s = .next (wdtReset s) := by
  rw [step, if_pos ((wdtDue_iff s).2 h)]

/-- Settles O51: the step is the block's reset, which leaves the environment's three fields alone. -/
theorem dueWatchdogResetsTheBlock : Obligations.DueWatchdogResetsTheBlock :=
  fun s harmed hlate => ⟨wdtReset s, step_of_resetDue ⟨harmed, hlate⟩, rfl, rfl, rfl, rfl⟩

/-! ## What no command clears (R908) and what it leaves the engine (R916) -/

/-- R908: every sticky bit set before is set after. -/
structure StickyKept (s t : State) : Prop where
  underrun : s.status.underrun = true → t.status.underrun = true
  buserr   : s.status.buserr = true → t.status.buserr = true
  cmderr   : s.status.cmderr = true → t.status.cmderr = true
  hasCrit  : s.status.hasCrit = true → t.status.hasCrit = true

/-- What holds across every command, beside `EngineKept`: it clears no sticky bit and no PUB, and the block SYN
reads stays the same. -/
structure CommandKept (s t : State) : Prop extends StickyKept s t where
  pub         : s.status.pub = true → t.status.pub = true
  activeBlock : t.activeBlock = s.activeBlock

theorem CommandKept.trans {s t u : State} (h : CommandKept s t) (g : CommandKept t u) : CommandKept s u :=
  ⟨⟨g.underrun ∘ h.underrun, g.buserr ∘ h.buserr, g.cmderr ∘ h.cmderr, g.hasCrit ∘ h.hasCrit⟩,
    g.pub ∘ h.pub, g.activeBlock.trans h.activeBlock⟩

theorem raise_commandKept (e : StickyError) (s : State) : CommandKept s (raise e s) := by
  cases e with
  | underrun => exact ⟨⟨fun _ => rfl, id, id, id⟩, id, rfl⟩
  | buserr => exact ⟨⟨id, fun _ => rfl, id, id⟩, id, rfl⟩
  | cmderr => exact ⟨⟨id, id, fun _ => rfl, id⟩, id, rfl⟩

/-- R622, R904: a report may set HAS_CRIT and does not clear it. -/
theorem recordError_commandKept (k : ErrorKind) (crit : Bool) (s : State) :
    CommandKept s (recordError k crit s) :=
  ⟨⟨id, id, id, fun h => Bool.or_eq_true_iff.2 (.inl h)⟩, id, rfl⟩

/-- R752: publication writes PENDING, never the active block. -/
theorem publish_commandKept (b : DdsBlock) (s : State) : CommandKept s (publish b s) := by
  have hactive := publish_activeBlock b s
  rcases publish_cases b s with ⟨-, e⟩ | ⟨-, -, e⟩ | ⟨-, -, e⟩ <;> rw [e] at hactive ⊢
  · exact ⟨⟨id, id, id, id⟩, id, hactive⟩
  · exact ⟨⟨id, id, id, id⟩, fun _ => rfl, hactive⟩
  · exact ⟨⟨id, id, id, id⟩, fun _ => rfl, hactive⟩

theorem evalState_commandKept (L : LutBits) (s : State) : CommandKept s (evalState L s).2 := by
  rcases evalState_cases L s with e | ⟨-, e⟩ | ⟨-, e⟩ | ⟨-, _, _, e⟩ | ⟨-, e⟩ <;> rw [e] <;>
    exact ⟨⟨id, id, id, id⟩, id, rfl⟩

/-- R700: UPDATE books the time, evaluates the motor state, publishes and writes the status bus. -/
theorem updateBody_eq (L : LutBits) (s : State) :
    ∃ u d b, (u = bookTime s ∨ ∃ dt, u = countRuntime dt (bookTime s))
      ∧ updateBody L s = writeStatusBus d (publish b (evalState L u).2) := by
  by_cases hm : s.status.motor = .running
  · exact ⟨_, _, _, .inr ⟨_, rfl⟩, updateBody_of_running L hm⟩
  · exact ⟨_, _, _, .inl rfl, updateBody_of_not_running L hm⟩

theorem updateBody_commandKept (L : LutBits) (s : State) : CommandKept s (updateBody L s) := by
  obtain ⟨u, d, b, hu, e⟩ := updateBody_eq L s
  have hbooked : CommandKept s u := by
    rcases hu with rfl | ⟨_, rfl⟩ <;> exact ⟨⟨id, id, id, id⟩, id, rfl⟩
  rw [e]
  exact (hbooked.trans (evalState_commandKept L u)).trans { publish_commandKept b _ with }

theorem reportErrorBody_commandKept (kind : Nat) (crit : Bool) (s : State) :
    CommandKept s (reportErrorBody kind crit s) := by
  rcases reportErrorBody_cases kind crit s with ⟨-, e⟩ | ⟨k, -, ⟨-, e⟩ | ⟨-, e⟩⟩ <;> rw [e]
  · exact raise_commandKept .cmderr s
  · exact { recordError_commandKept k crit s with }
  · exact { recordError_commandKept k crit s with }

theorem exec_commandKept {i : Instr} {s t : State} (h : exec i s = .next t) : CommandKept s t := by
  rcases exec_cases h with e | ⟨-, -, e⟩ | ⟨-, -, e⟩ | ⟨-, -, e⟩ | ⟨-, -, e⟩ | ⟨-, -, e⟩ | ⟨-, -, e⟩
    | ⟨k, -, -, e⟩ | ⟨-, -, e⟩ | ⟨p, -, -, -, -, e⟩ | ⟨k, c, -, e⟩ | ⟨-, e⟩ <;> subst e
  · exact ⟨⟨id, id, id, id⟩, id, rfl⟩
  · rcases initBody_cases s with ⟨-, e⟩ | ⟨-, -, e⟩ | ⟨-, -, e⟩ <;> rw [e] <;>
      exact ⟨⟨id, id, id, id⟩, id, rfl⟩
  · exact { updateBody_commandKept _ s with }
  · rcases startBody_cases s with ⟨-, e⟩ | ⟨-, e⟩ | ⟨-, e⟩ <;> rw [e] <;> exact ⟨⟨id, id, id, id⟩, id, rfl⟩
  · rcases stopBody_cases s with ⟨-, e⟩ | ⟨-, e⟩ <;> rw [e] <;> exact ⟨⟨id, id, id, id⟩, id, rfl⟩
  · rcases toggleStandbyBody_cases s with ⟨-, e⟩ | ⟨-, e⟩ <;> rw [e] <;> exact ⟨⟨id, id, id, id⟩, id, rfl⟩
  · rcases wakeBody_cases s with ⟨-, e⟩ | ⟨-, e⟩ <;> rw [e] <;> exact ⟨⟨id, id, id, id⟩, id, rfl⟩
  · rcases changeSpeed_cases k s with ⟨-, e⟩ | ⟨-, -, -, e⟩ | ⟨-, -, e⟩ <;> rw [e] <;>
      exact ⟨⟨id, id, id, id⟩, id, rfl⟩
  · exact { raise_commandKept .cmderr s with }
  · exact ⟨⟨id, id, id, id⟩, id, rfl⟩
  · exact reportErrorBody_commandKept k c s
  · exact ⟨⟨id, id, id, id⟩, id, rfl⟩

/-! ## The sticky bits across a step (R908) -/

/-- R441: a TICK that underruns sets UNDERRUN, any other leaves it. -/
theorem tick_stickyKept (s : State) : StickyKept s (tick s) := by
  rcases tick_cases s with ⟨-, e⟩ | ⟨-, e⟩ <;> rw [e]
  · exact ⟨id, id, id, id⟩
  · exact ⟨fun h => Bool.or_eq_true_iff.2 (.inl h), id, id, id⟩

/-- R908: no agent's step clears a sticky bit. -/
theorem agentStep_stickyKept {a : AgentStep} {s t : State} (h : agentStep a s = .next t) : StickyKept s t := by
  rcases agentStep_cases h with ⟨off, n, -, e⟩ | ⟨_, _, _, -, -, e⟩ | ⟨_, i, -, -, hexec⟩ | ⟨_, _, -, -, e⟩
    | ⟨_, _, v, r, -, -, -, e⟩ | ⟨-, -, e⟩ | ⟨-, -, e⟩ | ⟨k, -, -, e⟩ | ⟨-, e⟩
  case inr.inr.inl => exact (exec_commandKept hexec).toStickyKept
  all_goals subst e
  · rcases hostRead_eq off n s with e | e <;> rw [e]
    · exact ⟨id, id, id, id⟩
    · exact ⟨id, fun _ => rfl, id, id⟩
  · exact (raise_commandKept .buserr s).toStickyKept
  · exact (raise_commandKept .cmderr s).toStickyKept
  · rcases writeReg_cases r v s with ⟨-, e⟩ | ⟨_, -, e⟩ | ⟨_, _, -, e⟩ | e <;> rw [e] <;>
      exact ⟨id, id, id, id⟩
  · exact refill_induct _ _ s (StickyKept s) fun _ _ _ _ _ _ _ _ _ _ => ⟨id, id, id, id⟩
  · exact tick_stickyKept s
  · exact ⟨id, id, id, id⟩
  · exact ⟨id, id, id, id⟩

/-- Settles O50: a step is the due reset, which clears STATUS, or one agent's step, which clears no sticky bit. -/
theorem stickyBitsClearOnlyAtReset : Obligations.StickyBitsClearOnlyAtReset := by
  intro s t hstep
  rcases step_cases_next hstep with ⟨hdue, rfl⟩ | ⟨hdue, sch, n, hagent⟩
  · exact ⟨fun hnot => absurd hdue hnot, fun _ => rfl⟩
  · obtain ⟨hunderrun, hbuserr, hcmderr, hcrit⟩ := agentStep_stickyKept hagent
    exact ⟨fun _ => ⟨hunderrun, hbuserr, hcmderr, hcrit⟩, fun h => absurd h hdue⟩

/-! ## HOST's writes (R801, R802, R916) -/

theorem EngineKept.sameEngine {s t : State} (h : EngineKept s t) : SameEngine s t := by
  obtain ⟨hbufs, hmem, hfilters, hphase, houtA, houtB, hticks, -, hsel, hstarted, hunderrun, -⟩ := h
  exact ⟨hphase, hbufs, houtA, houtB, hticks, hfilters, hsel, hstarted, hunderrun, fun _ => by rw [hmem]⟩

theorem EngineKept.timeMs {s t : State} (h : EngineKept s t) : t.timeMs = s.timeMs := by
  obtain ⟨-, -, -, -, -, -, -, htime, -⟩ := h
  exact htime

/-- R801, R802: a write that is no command writes the configuration, TOTAL_RT or BUSERR. -/
theorem memWrite_eq_of_not_cmd {off n : Nat} {v : Word} {s t : State} (h : memWrite off n v s = .next t)
    (hcmd : ¬(off = 0x004 ∧ n = 4)) :
    ∃ c p rt b, t = { s with
      cfg := c, profiles := p, totalRt := rt, status := { s.status with buserr := b } } := by
  rcases memWrite_cases off n v s with ⟨-, e⟩ | ⟨hoff, hn, -⟩ | ⟨r, -, -, e⟩
  · cases e.symm.trans h
    exact ⟨s.cfg, s.profiles, s.totalRt, true, rfl⟩
  · exact absurd ⟨hoff, hn⟩ hcmd
  · cases e.symm.trans h
    rcases writeReg_cases r v s with ⟨-, e⟩ | ⟨g, -, e⟩ | ⟨k, f, -, e⟩ | e <;> rw [e] <;>
      exact ⟨_, _, _, s.status.buserr, rfl⟩

section
variable {w : Word} {s t : State} (h : execWord w s = .next t)
include h

theorem execWord_engineKept : EngineKept s t := by
  rcases execWord_cases w s with ⟨i, -, e⟩ | ⟨_, -, e⟩
  · exact exec_engineKept (e.symm.trans h)
  · cases e.symm.trans h
    exact .refl s

theorem execWord_commandKept : CommandKept s t := by
  rcases execWord_cases w s with ⟨i, -, e⟩ | ⟨_, -, e⟩
  · exact exec_commandKept (e.symm.trans h)
  · cases e.symm.trans h
    exact raise_commandKept .cmderr s

/-- R622, R623: a word other than LOAD_DEFAULTS and a SettingsCorrupt report leaves the configuration alone. -/
theorem execWord_configKept (hload : decode w ≠ .ok .loadDefaults)
    (hreport : ∀ c, decode w ≠ .ok (.reportError 2 c)) : ConfigKept s t := by
  rcases execWord_cases w s with ⟨i, hi, e⟩ | ⟨_, -, e⟩
  · rcases exec_config (e.symm.trans h) with hkept | ⟨rfl | ⟨c, rfl⟩, -⟩
    · exact hkept
    · exact absurd hi hload
    · exact absurd hi (hreport c)
  · cases e.symm.trans h
    exact ⟨rfl, rfl⟩

end

/-! ## What SYN, DMA and ISR do to the halves' flags (R430, R440, R445, R916) -/

theorem HalfFlags.get_of_get_set_false {f : HalfFlags} {h k : Half} (hk : (f.set h false).get k = true) :
    f.get k = true := by
  rw [HalfFlags.get_set] at hk
  split at hk
  · cases hk
  · exact hk

theorem HalfFlags.get_set_true_of_get (f : HalfFlags) (h : Half) {k : Half} (hk : f.get k = true) :
    (f.set h true).get k = true := by
  rw [HalfFlags.get_set, hk, ite_self]

/-- R6: where a guarded step answers a next state, it is the step's. -/
theorem eq_of_guarded_next {b : Bool} {t u : State} {f : Fault}
    (h : (if b then .next u else .fault f : Result) = .next t) : t = u := by
  split at h <;> cases h
  rfl

/-- R430, R433: a REFILL clears PUB, takes its half from FREE to READY, and starts the consumer only where it has
not started. -/
theorem refill_cases (L : LutBits) (tab : FirTable) (s : State) :
    ∃ sel a b m ph fs,
      let filled : State := { s with
        status := { s.status with activeSel := sel, pub := false }
        ddsA := a, ddsB := b, mem := m, masterPhase := ph, filters := fs
        bufs := { s.bufs with
          free := s.bufs.free.set s.bufs.nextFill false
          ready := s.bufs.ready.set s.bufs.nextFill true, nextFill := s.bufs.nextFill.other } }
      refill L tab s = filled
        ∨ (s.status.started = false ∧ refill L tab s = { filled with
            status := { filled.status with started := true }
            bufs := { filled.bufs with playHalf := .h0, tickPos := 0, ready := ⟨false, true⟩ } }) := by
  obtain ⟨S, fs, a, b, sel, -, -, -, -, -, e⟩ := refill_eq L tab s
  generalize synthRun L tab S 256 s.masterPhase fs = run at e
  refine ⟨sel, a, b, storeHalf s.mem s.bufs.nextFill run.words, run.phase, run.filters, ?_⟩
  intro filled
  rw [e]
  rcases startConsumer_cases filled with ⟨⟨hnot, -⟩, estart⟩ | ⟨-, estart⟩
  · exact .inr ⟨hnot, estart⟩
  · exact .inl estart

/-! ## Each agent's own state (R916) -/

/-- Settles O60: each agent's step is one of its cases, and each case writes the agent's own state only. -/
theorem agentsKeepToTheirOwnState : Obligations.AgentsKeepToTheirOwnState := by
  refine ⟨fun s t off n v h => ?hostWrite, fun s t off n h => ?hostRead, fun s t h => ?refill,
    fun s t h => ?tick, fun s t k h => ?isr, fun s t h => ?clk⟩
  case hostWrite =>
    by_cases hcmd : off = 0x004 ∧ n = 4
    · obtain ⟨rfl, rfl⟩ := hcmd
      have hengine := execWord_engineKept h
      have hkept := execWord_commandKept h
      exact ⟨hengine.sameEngine, hengine.timeMs, hkept.activeBlock, hkept.pub,
        fun hnot => absurd ⟨rfl, rfl⟩ hnot, fun _ _ hload hreport =>
          have hconfig := execWord_configKept h hload hreport
          ⟨hconfig.cfg, hconfig.profiles⟩⟩
    · obtain ⟨_, _, _, _, rfl⟩ := memWrite_eq_of_not_cmd h hcmd
      exact ⟨(EngineKept.refl s).sameEngine, rfl, rfl, id, fun _ => rfl,
        fun hoff hn => absurd ⟨hoff, hn⟩ hcmd⟩
  case hostRead =>
    cases h
    rcases hostRead_eq off n s with e | e <;> rw [e] <;> exact ⟨(EngineKept.refl s).sameEngine, rfl⟩
  case refill =>
    cases eq_of_guarded_next h
    obtain ⟨_, _, _, _, _, _, e | ⟨hnot, e⟩⟩ := refill_cases Config.lutBits Config.firCoeff s <;> rw [e]
    · exact ⟨rfl, nofun, fun hstarted => ⟨hstarted, rfl, rfl⟩,
        fun _ => ⟨HalfFlags.get_of_get_set_false, fun _ => HalfFlags.get_set_true_of_get _ _⟩⟩
    · refine ⟨rfl, nofun, ?_⟩
      rw [hnot]
      exact ⟨nofun, fun _ => ⟨HalfFlags.get_of_get_set_false, nofun⟩⟩
  case tick =>
    cases eq_of_guarded_next h
    rcases tick_cases s with ⟨-, e⟩ | ⟨-, e⟩ <;> rw [e]
    · exact ⟨rfl, fun _ => rfl, fun _ => ⟨id, id⟩⟩
    · exact ⟨rfl, fun _ => rfl, fun _ => ⟨HalfFlags.get_of_get_set_false, HalfFlags.get_set_true_of_get _ _⟩⟩
  case isr =>
    cases eq_of_guarded_next h
    exact ⟨rfl, fun _ => rfl, fun _ => ⟨HalfFlags.get_of_get_set_false, HalfFlags.get_set_true_of_get _ _⟩⟩
  case clk =>
    cases h
    exact ⟨rfl, fun _ => rfl⟩

end Sys2Proof.Machine
end

section
/-!
PROOFS. The state right after reset (spec/70_reset_and_hazards.md R1001, R1004): what every register reads there,
region by region of the address map, and the invariants the reset meets.
-/

namespace Sys2Proof.Machine

open Sys2Proof

/-! ## The registers that read 0 (R1004) -/

/-- R1004: the value the table gives an offset, 0 where the table does not list it. -/
def resetValue (off : Nat) : Word := (resetReadback.lookup off).getD 0

/-- R142: every word of the silent block is 0. -/
theorem ddsWord_silent (w : Fin 8) : ddsWord .silent w = 0 := by
  revert w
  decide

/-- R1001: after reset both blocks, and so both views of them, are the silent block. -/
theorem viewedBlock_reset (v : DdsView) : viewedBlock v State.reset = .silent := by
  cases v <;> rfl

/-- R1001: every filter history is 0. -/
theorem filters_reset (c : Fin 4) : State.reset.filters[c] = .zero := Vector.getElem_replicate _

theorem firHist_zero (k : Fin 8) : ChanFilter.zero.firHist[k] = 0 := Vector.getElem_replicate _

/-- R1001: every word of buffer memory is 0. -/
theorem bufWord_reset (sl : Slice) (h : Half) (j : Nat) : bufWord State.reset sl h j = 0 := by
  show Memory.readWord [] _ = 0
  simp only [Memory.readWord, Memory.readByte_nil]
  rfl

/-- R1004: outside the core registers and the configuration, every register reads 0. -/
theorem readReg_reset_eq_zero {off : Nat} {r : Reg} (hlo : 0x080 ≤ off) (hrange : off < 0x200 ∨ 0x1000 ≤ off)
    (h : regAt off = some r) : readReg r State.reset = 0 := by
  rcases hrange with hlow | hhigh
  · simp only [regAt, if_neg (Nat.not_lt.2 hlo), if_pos hlow] at h
    split_ifs at h <;> cases h
    · rw [readReg, viewedBlock_reset, ddsWord_silent]
    · rw [readReg, filters_reset]; rfl
    · rfl
    · rw [readReg, filters_reset, firHist_zero]
    · rfl
    · rfl
  · simp (disch := omega) only [regAt, if_neg] at h
    split at h <;> cases h
    exact bufWord_reset _ _ _

/-- The table lists core and configuration registers only. -/
theorem mem_resetReadback_range :
    ∀ r ∈ resetReadback, r.1 < 0x080 ∨ (0x200 ≤ r.1 ∧ r.1 < 0x1000) := by decide

theorem resetValue_eq_zero {off : Nat} (hlo : 0x080 ≤ off) (hrange : off < 0x200 ∨ 0x1000 ≤ off) :
    resetValue off = 0 := by
  have hnone : resetReadback.lookup off = none := List.lookup_eq_none_iff.2 fun r hr => by
    have := mem_resetReadback_range r hr
    exact bne_iff_ne.2 (by omega)
  rw [resetValue, hnone]
  rfl

/-! ## The registers of the table (R1004) -/

/-- R101 to R118: of the core registers, ID and BUF_STATE alone read other than 0. -/
theorem readReg_reset_coreRegs : ∀ i : Fin 32, readReg coreRegs[i] State.reset = resetValue (4 * i.val) := by
  decide

/-- R160: the global configuration registers read their defaults. -/
theorem readReg_reset_globalCfg (g : GlobalReg) :
    readReg (.globalCfg g) State.reset = resetValue (configOffset (.globalCfg g)) := by
  cases g <;> rfl

/-- R171: the registers of each profile read their defaults. -/
theorem readReg_reset_profile (k : Speed) (f : ProfileReg) :
    readReg (.profile k f) State.reset = resetValue (configOffset (.profile k f)) := by
  cases k <;> cases f <;> rfl

/-- R1004: the register at a mapped offset reads the value of that offset. -/
theorem readReg_reset {off : Nat} {r : Reg} (halign : off % 4 = 0) (hres : ¬reservedOffset off)
    (hreg : regAt off = some r) : readReg r State.reset = resetValue off := by
  by_cases hcore : off < 0x080
  · rw [regAt, if_pos hcore] at hreg
    obtain ⟨hlt, rfl⟩ := List.getElem?_eq_some_iff.1 hreg
    have hread := readReg_reset_coreRegs ⟨off / 4, hlt⟩
    rwa [show 4 * (off / 4) = off by omega] at hread
  by_cases hcfg : 0x200 ≤ off ∧ off ≤ 0x3FF
  · obtain ⟨hlo, hhi⟩ := hcfg
    have hoff := configOffset_of_regAt hlo hhi halign hreg
    rw [← hoff]
    cases r with
    | globalCfg g => exact readReg_reset_globalCfg g
    | profile k f => exact readReg_reset_profile k f
    | _ => exact absurd (show 0 = off from hoff) (by omega)
  · have hlo : 0x080 ≤ off := Nat.le_of_not_lt hcore
    have hrange : off < 0x200 ∨ 0x1000 ≤ off := by
      unfold reservedOffset at hres
      omega
    rw [readReg_reset_eq_zero hlo hrange hreg, resetValue_eq_zero hlo hrange]

/-- Settles O1: every mapped offset holds a register, which reads the table's value. -/
theorem resetReadsItsRegisters : Obligations.ResetReadsItsRegisters := by
  intro off halign hle hres
  obtain ⟨r, htarget, hreg⟩ := readTarget_of_mapped halign hle hres
  exact memRead_of_target htarget (readReg_reset halign hres hreg)

/-! ## The invariants (R1001) -/

/-- R931, R1001: the watchdog's reset of the reset state is that state, so it meets what every such reset meets. -/
theorem wdtReset_reset : wdtReset State.reset = State.reset := rfl

theorem watchdogKept_reset : WatchdogKept State.reset := wdtReset_reset ▸ watchdogKept_wdtReset State.reset

theorem beforeInitAtRest_reset : BeforeInitAtRest State.reset :=
  wdtReset_reset ▸ beforeInitAtRest_wdtReset State.reset

theorem bufferProtocol_reset : BufferProtocol State.reset :=
  wdtReset_reset ▸ bufferProtocol_wdtReset State.reset

theorem contractKept_reset : ContractKept State.reset := rfl

theorem filtersInRange_reset : FiltersInRange State.reset :=
  (filtersInRange_iff _).2 channelInRange_replicate_zero

theorem bufferLayout_reset : BufferLayout State.reset := bufferLayout_of_mem_nil rfl

/-- Settles O59: a watchdog's reset meets the step invariants, and the ranges and memory are those of the defaults. -/
theorem resetMeetsTheInvariants : Obligations.ResetMeetsTheInvariants :=
  ⟨watchdogKept_reset, beforeInitAtRest_reset, bufferProtocol_reset, contractKept_reset, valuesInRange_reset,
    filtersInRange_reset, reset_mem_wf, bufferLayout_reset, outputLayout_reset⟩

end Sys2Proof.Machine
end
